-- ==== Sys2Proof/Word.lean ====
section
/-! DEFINITION. The word types of the HB-6's links and counters. -/
namespace Sys2Proof

/-- One byte of a frame. -/
abbrev Byte := BitVec 8

/-- One 16-bit slot or counter (field link words, cycle numbers, CRC). -/
abbrev Word16 := BitVec 16

/-- One 32-bit counter (timestamps). -/
abbrev Word32 := BitVec 32

end Sys2Proof
end

