-- ==== Sys2Proof/Types.lean ====
section
/-! DEFINITION. The names and records that several blocks of the HB-6 share: trucks, axles, the enumerations of
R195, the recorded sample block of R130 to R132. -/
namespace Sys2Proof

/-- Truck 1 (axles 1 to 3) or truck 2 (axles 4 to 6), section 5.2 of the scope file. -/
inductive Truck where
  | t1 | t2
  deriving DecidableEq, Repr

/-- One value for each truck. -/
structure PerTruck (α : Type) where
  t1 : α
  t2 : α
  deriving DecidableEq, Repr

/-- Axles 1 to 6, measurement channels 0 to 5 in that order. -/
inductive Axle where
  | a1 | a2 | a3 | a4 | a5 | a6
  deriving DecidableEq, Repr

/-- One value for each axle. -/
structure PerAxle (α : Type) where
  a1 : α
  a2 : α
  a3 : α
  a4 : α
  a5 : α
  a6 : α
  deriving DecidableEq, Repr

/-- The two readout streams (R167). -/
inductive StreamNo where
  | s0 | s1
  deriving DecidableEq, Repr

/-- One value for each stream. -/
structure PerStream (α : Type) where
  s0 : α
  s1 : α
  deriving DecidableEq, Repr

/-- Validity of a measurement channel (section 1.2) or of a recorded quantity (R131). -/
inductive Validity where
  | valid | stale | invalid
  deriving DecidableEq, Repr

/-- Blend state (R32). -/
inductive BlendState where
  | released | dynamic | blended | air | emergency | failsafe
  deriving DecidableEq, Repr

/-- Field link state (section 1.3). -/
inductive LinkState where
  | start | up | degraded | lost
  deriving DecidableEq, Repr

/-- State of a truck pressure channel (R47). -/
inductive ChannelState where
  | off | lapped | applying | releasing | dumping | fault
  deriving DecidableEq, Repr

/-- Fault latch of a truck pressure channel (R56). -/
inductive FaultLatch where
  | clear | noApply | noRelease
  deriving DecidableEq, Repr

/-- Cause carried by a CHANNEL_FAULT notice (R54, R56). -/
inductive ChannelFaultCause where
  | noApply | noRelease | bcInvalid
  deriving DecidableEq, Repr

/-- Truck correction of the adhesion monitor (section 4.5). -/
inductive Correction where
  | idle | dumping | reapplyHold | settling
  deriving DecidableEq, Repr

/-- Axle state (section 4.3). -/
inductive AxleState where
  | rolling | suspect | sliding | recovery | excluded
  deriving DecidableEq, Repr

/-- Dynamic brake shortfall state of a truck (R36 to R38). -/
inductive ShortfallState where
  | normal | shortfall | fault
  deriving DecidableEq, Repr

/-- Consist role (R100). -/
inductive Role where
  | offline | lead | trail
  deriving DecidableEq, Repr

/-- Follow state of a trail (R111). `inLocal` is LOCAL. -/
inductive Follow where
  | waiting | following | inLocal
  deriving DecidableEq, Repr

/-- Cause of an emergency entry (R88). -/
inductive EntryCause where
  | none | pipeRate | pipeLow | hostApply | consist
  deriving DecidableEq, Repr

/-- Manner of an emergency exit (R92). -/
inductive ExitManner where
  | reset | leadClear
  deriving DecidableEq, Repr

/-- The eight trigger sources (R134). -/
inductive Source where
  | emergency | unitLost | linkLost | penalty | slidePersist | blendFault | statusMatch | hostMark
  deriving DecidableEq, Repr

/-- Capture state (R136). -/
inductive CaptureState where
  | idle | allocating | capturing | closing
  deriving DecidableEq, Repr

/-- Close status of a record (R145). -/
inductive CloseStatus where
  | complete | truncated | storeError | interrupted
  deriving DecidableEq, Repr

/-- Completion status of a stream (section 10.4). -/
inductive Completion where
  | windowEnd | triggerPoint | singleDone | recordGone | aborted
  deriving DecidableEq, Repr

/-- Completion status of a roll call (R125). -/
inductive RollStatus where
  | complete | rosterFull
  deriving DecidableEq, Repr

/-- Cause of a CONFIG_DEFAULTED notice (R189). The item is the first one out of range. -/
inductive DefaultCause where
  | badCheck
  | outOfRange (item : Nat)
  deriving DecidableEq, Repr

/-- Reply statuses (R195). -/
inductive ReplyStatus where
  | ok | accepted | unknownKind | badLength | badValue | wrongRole | wrongState | busy | moving
  | holdTime | isProtected | noRecord | notAcked | storeFull
  deriving DecidableEq, Repr

/-- STATUS_SENSE (R14). -/
inductive Sense where
  | edge | level
  deriving DecidableEq, Repr

/-- EMERG_DYNAMIC (R88). -/
inductive EmergDynamic where
  | keep | drop
  deriving DecidableEq, Repr

/-- STORE_MODE (R154, R155). -/
inductive StoreMode where
  | interleaved | burst
  deriving DecidableEq, Repr

/-- Adhesion ceiling of a truck: OPEN, or a finite effort in 0.01 kN (R79). -/
inductive Ceiling where
  | unlimited
  | finite (centi : Nat)
  deriving DecidableEq, Repr

/-- One recordable quantity in a sample block with its validity (R131). An OPEN ceiling has value 0xFFFF (R195). -/
structure Quantity where
  value : Nat
  validity : Validity
  deriving DecidableEq, Repr

/-- The per-truck part of the state summary (R132). The request is in kN×10. The channel target and the other values that
R48, R50, R62 and R96 record beside it are not in the list of R132; they stand in `AlsoRecorded` (log 44). -/
structure TruckSummary where
  channel : ChannelState
  correction : Correction
  request : Nat
  deriving DecidableEq, Repr

/-- The state summary of a sample block (R132). -/
structure Summary where
  blend : BlendState
  trucks : PerTruck TruckSummary
  axles : PerAxle AxleState
  vrefKnown : Bool
  link : LinkState
  role : Role
  follow : Option Follow
  conflict : Bool
  activeUnits : Nat
  emergency : Bool
  cause : EntryCause
  penalty : Bool
  master : Bool
  sand : PerTruck Bool
  deriving DecidableEq, Repr

/-- What other rules record of a truck in the block being filled beside the list of R132: channel target and drivers (R48,
R50, R62), what the BLE works out for the truck with its shortfall state, DB fault latch and enable (R19, R36), DEGRADED and
onset request (R61). Pressures in kPa, efforts in kN×10. -/
structure TruckRecorded where
  target : Nat
  apply : Bool
  release : Bool
  capacity : Nat
  dynTarget : Nat
  computedAir : Nat
  airTarget : Nat
  limited : Nat
  shortfall : ShortfallState
  dbFault : Bool
  enable : Bool
  degraded : Bool
  onset : Nat
  deriving DecidableEq, Repr

/-- What a sample block records beside the lists of R131 and R132: the trucks' part, D_dem and C (R19, R41), and the penalty
cause code (R96). The bytes of section 12.2 have no place for it (log 44). -/
structure AlsoRecorded where
  trucks : PerTruck TruckRecorded
  dDem : Nat
  capacity : Nat
  penaltyCode : Nat
  deriving DecidableEq, Repr

/-- A sealed sample block (R130), or its stored form with the masked quantities only (R145). `seq` wraps. Event marks: bit
n is the source of code n. -/
structure SampleBlock where
  seq : Word32
  time : Word32
  quantities : List Quantity
  summary : Summary
  also : AlsoRecorded
  marks : BitVec 8
  deriving DecidableEq, Repr

/-- A block as a frame carries it: sequence number, timestamp, and the 17 + 2m bytes of section 12.2. -/
structure RawBlock where
  seq : Word32
  time : Word32
  body : List Byte
  deriving DecidableEq, Repr

/-- The 29 configuration items (section 11.4), each in the unit of its encoding in R197. -/
structure Settings where
  /-- 1 UNIT_IDENTITY, 0 or an identity -/
  unitIdentity : Nat
  /-- 2 SLOT_MAP, the slot of each of the 17 channels, 0 for unmapped -/
  slotMap : List Nat
  /-- 3 STATUS_COMPARE -/
  statusCompare : Word16
  /-- 4 STATUS_MASK -/
  statusMask : Word16
  /-- 5 STATUS_SENSE -/
  statusSense : Sense
  /-- 6 PIPE_NOMINAL, kPa -/
  pipeNominal : Nat
  /-- 7 AUTO_GAIN, 0.01 kN/kPa -/
  autoGain : Nat
  /-- 8 DYN_HANDLE_FULL, kN×10 -/
  dynHandleFull : Nat
  /-- 9 AIR_GAIN, 0.001 kN/kPa -/
  airGain : Nat
  /-- 10 SERVICE_MAX, kPa -/
  serviceMax : Nat
  /-- 11 EMERG_PRESSURE, kPa -/
  emergPressure : Nat
  /-- 12 AIR_RATE, kPa/s -/
  airRate : Nat
  /-- 13 DYN_RATE, kN/s -/
  dynRate : Nat
  /-- 14 DB_CURVE, 16 points of (speed in 0.01 km/h, effort in kN×10) -/
  dbCurve : List (Nat × Nat)
  /-- 15 EMERG_DYNAMIC -/
  emergDynamic : EmergDynamic
  /-- 16 SLIDE_ABS, 0.01 km/h -/
  slideAbs : Nat
  /-- 17 SLIDE_REL, % -/
  slideRel : Nat
  /-- 18 DUMP_LIMIT, ms -/
  dumpLimit : Nat
  /-- 19 REAPPLY_HOLD, ms -/
  reapplyHold : Nat
  /-- 20 CEILING_FACTOR, % -/
  ceilingFactor : Nat
  /-- 21 CEILING_RISE, kN/s -/
  ceilingRise : Nat
  /-- 22 CEILING_FLOOR, kN×10 -/
  ceilingFloor : Nat
  /-- 23 REF_DECEL_LIMIT, 0.1 km/h/s -/
  refDecelLimit : Nat
  /-- 24 PRE_TRIGGER, blocks -/
  preTrigger : Nat
  /-- 25 POST_TRIGGER, blocks -/
  postTrigger : Nat
  /-- 26 TRIGGER_ENABLE, bit n for the source of code n -/
  triggerEnable : BitVec 8
  /-- 27 RECORD_CHANNELS, bit n for quantity n -/
  recordChannels : BitVec 24
  /-- 28 STORE_MODE -/
  storeMode : StoreMode
  /-- 29 REPORT_INTERVAL, ms -/
  reportInterval : Nat
  deriving DecidableEq, Repr

end Sys2Proof
end

