-- ==== Sys2Proof/Syntax.lean ====
section
/-! DEFINITION. The commands of the HB-6: one constructor of Instr for each row of spec/opcode_table.json, with the
operands that come from outside the part (the frame on a line, the result of a store operation, the truck or axle an
event names). -/
namespace Sys2Proof

/-- What the FLM received in the reply window of a field cycle (R3, table of outcomes). -/
inductive Inbound where
  /-- no frame begins in the window -/
  | nothing
  /-- a frame is still arriving when the window closes -/
  | late
  /-- the line falls idle before a complete frame has arrived -/
  | lineIdle
  /-- a complete frame: header word, slots 0 to 31, CRC word (section 12.4) -/
  | frame (header : Word16) (slots : List Word16) (crc : Word16)
  deriving DecidableEq, Repr

/-- An order of the four blocks that act on one image update (R19, R46, R61, R83; log 6). Starting from the list
BLE, the TPC goes in at place `tpc`, then the AM at place `am`, then the ES at place `es`: every value is one of the
24 orders. -/
structure BlockOrder where
  tpc : Fin 2
  am : Fin 3
  es : Fin 4
  deriving DecidableEq, Repr

/-- The end of a field cycle: what was received, the order in which the blocks take the update, and which of R65 and R69 the
AM follows at it for an axle without a VALID speed while V_ref is UNKNOWN: R69 where `held`, which keeps the axle's state, else
R65 (log 41). -/
structure CycleEnd where
  rx : Inbound
  order : BlockOrder
  held : Bool
  deriving DecidableEq, Repr

/-- One piece of activity that a consist line receiver took (R99): whether a break and a mark preceded it, every stop
bit was at mark, there was no gap above 50 µs and no break inside it, its last character came before the answer window
closed, and its bytes from the start byte on. -/
structure LineRx where
  breakAndMark : Bool
  stopBits : Bool
  noGap : Bool
  inTime : Bool
  bytes : List Byte
  deriving DecidableEq, Repr

/-- One character received on the control link (R177): the byte, whether its stop bit was at mark, whether more than
2 ms passed since the character before. -/
structure RxChar where
  byte : Byte
  stopOk : Bool
  gap : Bool
  deriving DecidableEq, Repr

/-- The result of a page read (R149). A bad page carries the bytes of its blocks as read, whatever they spell (R171): a
block listed stands in place of the stored one, the others read as stored (log 11). -/
inductive ReadResult where
  | good
  | bad (asRead : List RawBlock)
  deriving DecidableEq, Repr

/-- What an operation cut short by loss of power leaves (R149; log 10). -/
inductive CutShort where
  | untouched | torn
  deriving DecidableEq, Repr

/-- What the start-up scan and load read as bad beyond what the memory holds as bad (R166, R189): slots whose entry
check is bad, pages (slot, page) whose page check is bad, and the check of the stored set. -/
structure ScanFaults where
  badEntries : List Nat
  badPages : List (Nat × Nat)
  badSet : Bool
  deriving DecidableEq, Repr

/-- What the outside gives at the end of a TX frame; used when that frame is the reply to RESTART: whether a page
write then in progress verifies (R165), and the scan's faults. -/
structure RestartFacts where
  pageVerified : Bool
  faults : ScanFaults
  deriving DecidableEq, Repr

/-- A request frame with a correct CRC (R177): kind, tag and payload. -/
structure ReqFrame where
  kind : Byte
  tag : Byte
  payload : List Byte
  deriving DecidableEq, Repr

/-- The commands, one for each row of the table of operations and events. An event at a cycle decision carries
`some d` for the decision at which it occurs, or `none` for the transition alone where its condition stands reached
(log 1). A request row carries the request's tag and payload (log 23). -/
inductive Instr where
  | powerOn (f : ScanFaults)
  | fieldCycleStart
  | fieldCycleDecision (d : CycleEnd)
  | fieldLinkUp (d : CycleEnd)
  | fieldLinkLost (d : CycleEnd)
  | shortfallEntry (t : Truck) (d : Option CycleEnd)
  | shortfallClear (t : Truck) (d : Option CycleEnd)
  | dbFaultLatch (t : Truck) (d : Option CycleEnd)
  | supervisionWindowEnd (t : Truck) (d : Option CycleEnd)
  | channelFaultLatch (t : Truck) (d : Option CycleEnd)
  | axleSlideConfirm (a : Axle) (d : Option CycleEnd)
  | axleRecoveryEnd (a : Axle) (d : Option CycleEnd)
  | axleExclude (a : Axle) (d : Option CycleEnd)
  | axleReturn (a : Axle) (d : Option CycleEnd)
  | forcedReapply (t : Truck) (d : Option CycleEnd)
  | reapplyHoldEnd (t : Truck) (d : Option CycleEnd)
  | settleEnd (t : Truck) (d : Option CycleEnd)
  | sampleBlockSeal
  | consistCycleStart
  | exchangeDecision (taken : List LineRx)
  | unitLost (ident : Nat) (taken : Option (List LineRx))
  | unitJoined (ident : Nat) (taken : Option (List LineRx))
  | rollDecision (taken : List LineRx)
  | enrolDecision (taken : List LineRx)
  | enrolExclude (taken : Option (List LineRx))
  | releaseTransmit
  | leadConflict (rx : LineRx)
  | shareAccept (rx : LineRx)
  | leadSilent
  | rollReceive (rx : LineRx)
  | enrolReceive (rx : LineRx)
  | releaseReceive (rx : LineRx)
  | controlFrameAbandoned (chars : List RxChar)
  | requestReceived (chars : List RxChar)
  | requestUnknownKind (kind tag : Byte) (payload : List Byte)
  | identify (tag : Byte) (payload : List Byte)
  | status (tag : Byte) (payload : List Byte)
  | configRead (tag : Byte) (payload : List Byte)
  | configWrite (tag : Byte) (payload : List Byte)
  | configWriteUnitIdentity (tag : Byte) (payload : List Byte)
  | configWriteSlotMap (tag : Byte) (payload : List Byte)
  | configWriteDbCurve (tag : Byte) (payload : List Byte)
  | configWriteTriggerEnable (tag : Byte) (payload : List Byte)
  | configWriteRecordChannels (tag : Byte) (payload : List Byte)
  | configWriteReportInterval (tag : Byte) (payload : List Byte)
  | configCommit (tag : Byte) (payload : List Byte)
  | configAreaWriteDone
  | setRoleOffline (tag : Byte) (payload : List Byte)
  | setRoleLead (tag : Byte) (payload : List Byte)
  | setRoleTrail (tag : Byte) (payload : List Byte)
  | rollCall (tag : Byte) (payload : List Byte)
  | rosterRead (tag : Byte) (payload : List Byte)
  | rosterRelease (tag : Byte) (payload : List Byte)
  | dynamicEnable (tag : Byte) (payload : List Byte)
  | penaltySet (tag : Byte) (payload : List Byte)
  | penaltyClear (tag : Byte) (payload : List Byte)
  | emergencyApply (tag : Byte) (payload : List Byte)
  | emergencyReset (tag : Byte) (payload : List Byte)
  | faultClearChannel (tag : Byte) (payload : List Byte)
  | faultClearDb (tag : Byte) (payload : List Byte)
  | faultClearBoth (tag : Byte) (payload : List Byte)
  | mark (tag : Byte) (payload : List Byte)
  | recordList (tag : Byte) (payload : List Byte)
  | recordProtect (tag : Byte) (payload : List Byte)
  | recordUnprotect (tag : Byte) (payload : List Byte)
  | recordErase (tag : Byte) (payload : List Byte)
  | streamOpen (tag : Byte) (payload : List Byte)
  | streamAck (tag : Byte) (payload : List Byte)
  | streamAbort (tag : Byte) (payload : List Byte)
  | restart (tag : Byte) (payload : List Byte)
  | txFrameEnd (r : RestartFacts)
  | reportDue
  | pageWriteDone (verified : Bool)
  | reclaimEraseDone
  | openingEntryWritten
  | closingEntryWritten
  | protectWriteDone
  | unprotectWriteDone
  | damagedWriteDone
  | hostEraseDone
  | streamPageReadDone (n : StreamNo) (r : ReadResult)
  | scrubRequest
  | scrubPageReadDone (r : ReadResult)
  | powerLoss (c : CutShort)
  | consistFrameSent
  | outboundFrameSent
  deriving DecidableEq, Repr

end Sys2Proof
end

