-- ==== Sys2Proof/Config.lean ====
section
/-! DEFINITION. What the HB-6's manual fixes as constants: identities, limits, the factory defaults of
section 11.4. The part's own read-only values (factory identity, silicon revision) stand in State (log 7). No free
value of the manual needs an uninterpreted constant: what the manual leaves open is an operand of the command at which
it shows (log 6, log 10, log 11, log 41). -/
namespace Sys2Proof.Config

/-- The identity that means all units, a destination only (scope file, section 5.4). -/
def allUnits : Nat := 4294967295

/-- The highest valid unit identity (scope file, section 5.4). -/
def lastIdentity : Nat := 4294967294

/-- The highest record number (R150). -/
def lastRecord : Nat := 4294967295

/-- The chip code of IDENTIFY (R185). -/
def chipCode : Nat := 0x6B36

/-- Number of measurement channels (section 1.2). -/
def channels : Nat := 17

/-- Number of record slots (R149). -/
def slots : Nat := 48

/-- Pages of a slot (R149). -/
def pagesPerSlot : Nat := 320

/-- Capacity of the sample ring (R133). -/
def ringSize : Nat := 512

/-- Greatest number of roster entries (R116). -/
def rosterMax : Nat := 5

/-- The factory defaults of every configuration item (table of section 11.4). -/
def defaults : Settings where
  unitIdentity := 0
  slotMap := [1, 2, 3, 4, 5, 6, 7, 8, 9, 10, 11, 12, 13, 14, 15, 16, 17]
  statusCompare := 0
  statusMask := 0
  statusSense := .edge
  pipeNominal := 500
  autoGain := 260
  dynHandleFull := 4000
  airGain := 450
  serviceMax := 380
  emergPressure := 450
  airRate := 80
  dynRate := 100
  dbCurve := [(0, 0), (300, 200), (600, 800), (1000, 1500), (1500, 2000), (2000, 2300), (3000, 2300), (4000, 2150)] ++
    [(5000, 1900), (6000, 1650), (7000, 1450), (8000, 1300), (9000, 1150), (10000, 1050), (11000, 950), (12000, 900)]
  emergDynamic := .drop
  slideAbs := 150
  slideRel := 3
  dumpLimit := 3000
  reapplyHold := 1500
  ceilingFactor := 85
  ceilingRise := 10
  ceilingFloor := 400
  refDecelLimit := 20
  preTrigger := 250
  postTrigger := 750
  triggerEnable := 0xFF
  recordChannels := 0x00FFFF
  storeMode := .interleaved
  reportInterval := 100

end Sys2Proof.Config
end

