-- ==== Sys2Proof/Machine/State.lean ====
section
/-! DEFINITION. The state of the HB-6, block by block, the reasons a step can stop, and the state after power-on. Every
field names the rule that gives it; INVENTORY.md lists its reset value. -/
namespace Sys2Proof.Machine

/-! ## Field Link Master (chapter 1) -/

/-- One entry of the measurement image (R4, R5): the raw slot value, its validity and its stale age. -/
structure Channel where
  value : Nat
  validity : Validity
  age : Nat
  deriving DecidableEq, Repr

/-- Where the field cycle stands (R1, R3): before the first cycle, outbound frame being sent, reply window open,
decided. -/
inductive CyclePhase where
  | beforeFirst | sending | window | decided
  deriving DecidableEq, Repr

/-- An outbound field frame: header word and the 32 slots (R2, section 12.4). -/
structure OutFrame where
  header : Word16
  slots : List Word16
  deriving DecidableEq, Repr

/-- State of the FLM (list at the head of chapter 1). -/
structure Flm where
  phase : CyclePhase
  counter : Word16
  image : List Channel
  statusWord : Word16
  link : LinkState
  goodRun : Nat
  badRun : Nat
  lostCount : Nat
  mapInForce : List Nat
  compareInForce : Word16
  maskInForce : Word16
  senseInForce : Sense
  lastMatch : Bool
  /-- time since the last STATUS_MATCH trigger, ms, or none (R14) -/
  matchAge : Option Nat
  controlActive : Bool
  outbound : Option OutFrame
  deriving DecidableEq, Repr

/-! ## Blend Engine (chapter 2) -/

/-- What the BLE holds for one own truck. `handed` is the request as the last recompute handed it to the FLM (R36), which
an emergency's drop (R34) does not change. A hold timer is none while its test does not hold, else the time for which
the test has held (R36, R37). Request and air target are the ramp positions in 0.01 kN and 0.01 kPa (R19); capacity,
dynamic target and limited effort are in kN×10, the computed air target in kPa. -/
structure TruckBlend where
  enable : Bool
  dbFault : Bool
  shortfall : ShortfallState
  below : Option Nat
  clear : Option Nat
  duration : Nat
  request : Nat
  handed : Nat
  airTarget : Nat
  capacity : Nat
  dynTarget : Nat
  computedAir : Nat
  limited : Nat
  deriving DecidableEq, Repr

/-- The follow inputs of a trail (R41): share in kN×10, air fill and independent pressure in kPa, bail and master
flags. -/
structure FollowInputs where
  share : Nat
  fill : Nat
  indep : Nat
  bail : Bool
  master : Bool
  deriving DecidableEq, Repr

/-- The set of consist shares a lead offers (R40): for each roster entry its identity and dynamic share in kN×10. -/
structure ShareSet where
  shares : List (Nat × Nat)
  fill : Nat
  indep : Nat
  emergency : Bool
  bail : Bool
  penalty : Bool
  master : Bool
  deriving DecidableEq, Repr

/-- What the BLE hands the CSL for STATUS answers (R43). -/
structure Handover where
  capacity : Nat
  achieved : Nat
  blend : BlendState
  fault : PerTruck Bool
  deriving DecidableEq, Repr

/-- State of the BLE (list at the head of chapter 2). Efforts are in kN×10. -/
structure Ble where
  blend : BlendState
  master : Bool
  trucks : PerTruck TruckBlend
  eAuto : Nat
  eDh : Nat
  dDem : Nat
  capacity : Nat
  dAssign : Nat
  aFill : Nat
  offered : Option ShareSet
  follow : Option FollowInputs
  handover : Handover
  deriving DecidableEq, Repr

/-! ## Truck pressure channels (chapter 3) -/

/-- The four claims a channel holds (R45). -/
structure Claims where
  air : Nat
  indep : Nat
  emergency : Bool
  slide : Correction
  deriving DecidableEq, Repr

/-- State of one truck pressure channel. The settle ramp is none while inactive, else its value in 0.01 kPa (R49).
`slideRead` is the slide claim as the last decision read it (R49, "first reads"; log 19). -/
structure Tpc where
  state : ChannelState
  claims : Claims
  target : Nat
  ramp : Option Nat
  window : Nat
  progressRef : Nat
  noProgress : Nat
  latch : FaultLatch
  sensorFault : Bool
  apply : Bool
  release : Bool
  slideRead : Correction
  deriving DecidableEq, Repr

/-! ## Adhesion Monitor (chapter 4) -/

/-- What the AM holds for one axle (R66 to R71). The history holds the oldest entry first, at most four. -/
structure AxleRec where
  state : AxleState
  history : List (Nat × Validity)
  confirm : Nat
  recovery : Nat
  invalid : Nat
  overSpeed : Nat
  ret : Nat
  deriving DecidableEq, Repr

/-- What the AM holds for one truck (R72 to R80). The onset effort is in kN×10, the onset request in 0.01 kN. -/
structure TruckSlide where
  degraded : Bool
  correction : Correction
  dump : Nat
  dumpLimit : Nat
  hold : Nat
  holdLimit : Nat
  settle : Nat
  latched : Bool
  onsetEffort : Nat
  onsetRequest : Nat
  ceiling : Ceiling
  persist : Nat
  sand : Bool
  deriving DecidableEq, Repr

/-- State of the AM. V_ref is in 0.0001 km/h (R63). -/
structure Am where
  vref : Nat
  known : Bool
  lostNotified : Bool
  axles : PerAxle AxleRec
  trucks : PerTruck TruckSlide
  deriving DecidableEq, Repr

/-! ## Emergency Supervisor (chapter 5) -/

/-- State of the ES. `held` is the time since the entry (R91), `seen` the recorded STATUS flags of roster entries
(R86), `shareFlag` the emergency flag of the last accepted SHARE (R93). -/
structure Es where
  latch : Bool
  cause : EntryCause
  entryTime : Option Word32
  held : Nat
  history : List (Nat × Validity)
  charged : Bool
  pipeRate : Bool
  pipeLow : Bool
  consist : Bool
  seen : List (Nat × Bool)
  shareFlag : Option Bool
  penalty : Bool
  penaltyCode : Nat
  deriving DecidableEq, Repr

/-! ## Consist line and roster (chapters 6 and 7) -/

/-- The seven flags of a STATUS (R110). -/
structure StatusFlags where
  slide : PerTruck Bool
  emergency : Bool
  fault : PerTruck Bool
  failsafe : Bool
  isLocal : Bool
  deriving DecidableEq, Repr

/-- The payloads of the seven consist line frame kinds (section 12.5). -/
inductive ConsistBody where
  | share (cycle : Word16) (dynamic fill indep : Nat) (emergency bail penalty master : Bool)
  | status (cycle : Word16) (capacity achieved bc1 bc2 : Nat) (flags : StatusFlags) (blend : Byte)
  | roll (low high : Nat)
  | rollAnswer (ident : Nat)
  | enrol
  | enrolAck
  | release
  deriving DecidableEq, Repr

/-- A clean consist line frame (R98). -/
structure ConsistFrame where
  source : Nat
  dest : Nat
  body : ConsistBody
  deriving DecidableEq, Repr

/-- The last status of a roster entry (R117). -/
structure LastStatus where
  capacity : Nat
  achieved : Nat
  bc1 : Nat
  bc2 : Nat
  flags : StatusFlags
  blend : Byte
  age : Nat
  deriving DecidableEq, Repr

/-- State of a roster entry (R107, R108). -/
inductive EntryState where
  | active | lost
  deriving DecidableEq, Repr

/-- A roster entry (section 7.1). -/
structure Entry where
  ident : Nat
  state : EntryState
  miss : Nat
  good : Nat
  seq : Nat
  last : Option LastStatus
  deriving DecidableEq, Repr

/-- An answer window of the lead: of an exchange with an entry, of a ROLL over a range, of an ENROL. -/
inductive Window where
  | exchange (ident : Nat) (cycle : Word16)
  | roll (low high : Nat)
  | enrol (ident : Nat)
  deriving DecidableEq, Repr

/-- What the consist line of this unit is doing (R98, R106): DIR is on while it sends. A frame being sent may open a
window at its end. -/
inductive LineJob where
  | idle
  | sending (f : ConsistFrame) (opens : Option Window)
  | window (w : Window)
  deriving DecidableEq, Repr

/-- A pending enrolment with the range it was found in (R122). -/
structure PendingEnrol where
  ident : Nat
  low : Nat
  high : Nat
  attempts : Nat
  deriving DecidableEq, Repr

/-- A running roll call (R120). The head of `stack` is its top; the stack has no bound, where R125 speaks of 34 places (log 46). -/
structure RollCall where
  stack : List (Nat × Nat)
  pendingEnrol : Option PendingEnrol
  found : Nat
  failed : Nat
  deriving DecidableEq, Repr

/-- A RELEASE owed: its source (the identity held when it came to be owed), its destination, and whether it is owed by the
leaving of the lead role (R102) or by ROSTER_RELEASE (R119). -/
structure OwedRelease where
  source : Nat
  dest : Nat
  leaving : Bool
  deriving DecidableEq, Repr

/-- State of the CSL with the roster. `todo` holds the exchanges still to be made in this cycle and `openings` the
roll-call openings left in it; `releases` holds the RELEASE frames owed. -/
structure Csl where
  role : Role
  conflict : Bool
  cycle : Word16
  cycleTicks : Nat
  cycleBegun : Bool
  roster : List Entry
  enrolSeq : Nat
  roll : Option RollCall
  openings : Nat
  todo : List Nat
  line : LineJob
  releases : List OwedRelease
  enrolled : Bool
  leadId : Nat
  follow : Option Follow
  silence : Option Nat
  shareCycle : Word16
  deriving DecidableEq, Repr

/-! ## Capture Unit (chapter 8) -/

/-- The open record of a capture (R137). Block numbers wrap (R130; log 34). `copied` is the writer's
next block, counted within the record. Fields that the directory entry also holds are kept there (R150). -/
structure OpenRecord where
  number : Nat
  slot : Nat
  source : Source
  trigBlock : Word32
  trigTime : Word32
  pre : Nat
  post : Nat
  mask : BitVec 24
  copied : Nat
  close : Option CloseStatus
  deriving DecidableEq, Repr

/-- A pending trigger with the items bound to it (R141). -/
structure PendingTrigger where
  source : Source
  block : Word32
  time : Word32
  pre : Nat
  post : Nat
  mask : BitVec 24
  deriving DecidableEq, Repr

/-- State of the CAP. `fill` is the sequence number of the block being filled, `sealTicks` the ticks since it began. -/
structure Cap where
  fill : Word32
  sealTicks : Nat
  marks : BitVec 8
  ring : List SampleBlock
  state : CaptureState
  record : Option OpenRecord
  waiting : List PendingTrigger
  dropped : Nat
  storeFull : Nat
  deriving DecidableEq, Repr

/-! ## Record Store (chapter 9) -/

/-- Slot state of the working directory (R151). -/
inductive SlotState where
  | free | erasing | capturing | closing | closed
  deriving DecidableEq, Repr

/-- The fields of a directory entry that holds a record (R150). -/
structure RecordInfo where
  number : Nat
  source : Source
  time : Word32
  pre : Nat
  blocks : Nat
  close : Option CloseStatus
  isProtected : Bool
  damaged : Bool
  mask : BitVec 24
  secondary : List (Source × Nat)
  overflow : Nat
  deriving DecidableEq, Repr

/-- An entry of the working directory (R150). -/
structure DirEntry where
  state : SlotState
  record : Option RecordInfo
  deriving DecidableEq, Repr

/-- A stored directory entry as the scan finds it (R166). -/
inductive StoredEntry where
  | free
  | erasing
  | badCheck
  | capturing (r : RecordInfo)
  | closed (r : RecordInfo)
  deriving DecidableEq, Repr

/-- One written page: its blocks and whether its page check is good (R149). -/
structure Page where
  blocks : List SampleBlock
  check : Bool
  deriving DecidableEq, Repr

/-- The configuration area: the stored values and the values over which its check was written, none while the check
is torn or stands over another set than the items of a commit in hand (R189, R191). Values are held as the items' own types,
not as stored bytes (log 12). -/
structure ConfigArea where
  values : Settings
  checkOver : Option Settings
  deriving DecidableEq, Repr

/-- The external non-volatile memory (R149). A page's address is slot × 320 + page. -/
structure NonVolatile where
  stored : List StoredEntry
  pages : List (Nat × Page)
  area : ConfigArea
  deriving DecidableEq, Repr

/-- What the capture writer asks of the port (section 9.2). -/
inductive WriterOp where
  | erase | opening | page
  deriving DecidableEq, Repr

/-- Kinds of directory writes of the directory client (section 9.2). -/
inductive DirKind where
  | closing | protect | unprotect | damaged
  deriving DecidableEq, Repr

/-- A directory write waiting (R153). -/
structure DirWrite where
  slot : Nat
  kind : DirKind
  deriving DecidableEq, Repr

/-- The operation in progress on the port (R149, R154). A read that is no longer wanted has `used` false. -/
inductive PortOp where
  | reclaimErase (slot : Nat)
  | opening (slot : Nat) (r : RecordInfo)
  | page (slot page : Nat) (blocks : List SampleBlock)
  | dir (w : DirWrite) (r : RecordInfo)
  | configItem (item : Nat)
  | configCheck
  | streamRead (n : StreamNo) (slot page : Nat) (used : Bool)
  | scrubRead (slot page : Nat) (used : Bool)
  | hostErase (slot : Nat)
  deriving DecidableEq, Repr

/-- The seven clients of the arbiter in the order of their table (section 9.2). -/
inductive Client where
  | writer | directory | config | s0 | s1 | scrubber | hostErase
  deriving DecidableEq, Repr

/-- The host erase in hand (R161); `ask` while its slot erase waits. -/
structure HostErase where
  slot : Nat
  number : Nat
  ask : Bool
  deriving DecidableEq, Repr

/-- A running scrub check (R163); `ask` while its page read waits. -/
structure ScrubCheck where
  slot : Nat
  page : Nat
  ask : Bool
  deriving DecidableEq, Repr

/-- State of the RS outside the memory itself. -/
structure Store where
  dir : List DirEntry
  nextNumber : Nat
  port : Option PortOp
  last : Client
  writer : Option WriterOp
  dirQueue : List DirWrite
  hostErase : Option HostErase
  scrubIndex : Nat
  check : Option ScrubCheck
  scrubLatch : Bool
  scrubTicks : Nat
  deriving DecidableEq, Repr

/-! ## Readout Unit (chapter 10) -/

/-- One STREAM_DATA frame (R170): the index of its first block, the page-damaged flag and the blocks as read. -/
structure StreamFrame where
  stream : StreamNo
  record : Nat
  index : Nat
  damaged : Bool
  blocks : List RawBlock
  deriving DecidableEq, Repr

/-- State of a stream (R167). -/
inductive StreamState where
  | idle | running | complete
  deriving DecidableEq, Repr

/-- A stream descriptor (section 10.1). `next` is the next pointer, which may be −1. `ask` while a page read waits at
the arbiter; `buffer` the frame built of the page read. A status on a RUNNING stream is a completion already decided
(R173). -/
structure Stream where
  state : StreamState
  record : Nat
  first : Nat
  last : Nat
  next : Int
  single : Bool
  stopAtTrigger : Bool
  trigIndex : Nat
  damaged : Nat
  status : Option Completion
  ask : Bool
  buffer : Option StreamFrame
  deriving DecidableEq, Repr

/-! ## Control Link Port (chapter 11) -/

/-- A reply: kind byte, tag, status and the payload after the status byte (section 12.2). -/
structure Reply where
  kind : Byte
  tag : Byte
  status : ReplyStatus
  payload : List Byte
  deriving DecidableEq, Repr

/-- The notices with the fields their rules name (R182). Efforts are in kN×10, pressures in kPa, V_ref in 0.01 km/h. -/
inductive NoticeBody where
  | emergencyOn (cause : EntryCause) (pipe : Nat) (pipeValidity : Validity) (vref : Nat) (known : Bool)
  | emergencyOff (cause : EntryCause) (ms : Nat) (manner : ExitManner)
  | penaltyOn (code : Nat)
  | penaltyOff (code : Nat)
  | slidePersist (t : Truck) (count : Nat) (onset : Nat) (ceiling : Ceiling)
  | refSpeedLost (candidates : Nat) (vref : Nat)
  | refSpeedBack (vref : Nat)
  | dbFault (t : Truck) (request achieved : Nat)
  | channelFault (t : Truck) (cause : ChannelFaultCause) (target bc : Nat)
  | fieldLinkLost (counter : Word16)
  | fieldLinkUp (counter : Word16) (lost : Nat)
  | unitLost (ident capacity : Nat) (cycle : Word16)
  | unitJoined (ident capacity : Nat)
  | leadSilent (lead : Nat) (cycle : Word16)
  | leadResumed (lead : Nat) (cycle : Word16)
  | leadConflict (source : Nat) (kind : Nat) (cycle : Word16)
  | rollCallDone (status : RollStatus) (found failed : Nat)
  | duplicateIdentity (ident : Nat)
  | recordClosed (number slot : Nat) (close : CloseStatus) (blocks : Nat) (source : Source) (isProtected : Bool)
  | storeFull (source : Source) (time : Word32) (count : Nat)
  | recordDamaged (number slot page : Nat)
  | eraseDone (slot number : Nat)
  | streamDone (n : StreamNo) (record : Nat) (status : Completion) (last : Int) (damaged : Nat)
  | commitDone (items : Nat)
  | configDefaulted (cause : DefaultCause)
  deriving DecidableEq, Repr

/-- A notice with the timestamp at which it was raised (R182). -/
structure Notice where
  time : Word32
  body : NoticeBody
  deriving DecidableEq, Repr

/-- A frame on the TX line (R181). -/
inductive TxFrame where
  | reply (r : Reply)
  | notice (n : Notice)
  | report (content : List Byte)
  | stream (f : StreamFrame)
  deriving DecidableEq, Repr

/-- A commit in hand (R190): the snapshot, the items still to be written (the head one waiting or in progress), the
number listed, and whether a write waits at the arbiter. -/
structure Commit where
  snapshot : Settings
  todo : List Nat
  listed : Nat
  ask : Bool
  deriving DecidableEq, Repr

/-- State of the CLP. `receiver` holds the characters of a frame begun, empty while hunting (R177). `reportIn` is the
time to the next due moment in ms, none while no report is due (R183). -/
structure Clp where
  receiver : List RxChar
  queue : List ReqFrame
  held : Bool
  replySlot : Option Reply
  notices : List Notice
  reportSlot : Option (List Byte)
  reportIn : Option Int
  lastStream : StreamNo
  badFrames : Nat
  discarded : Nat
  lostNotices : Nat
  working : Settings
  image : Settings
  imageValid : Bool
  commit : Option Commit
  tx : Option TxFrame
  deriving DecidableEq, Repr

/-! ## The whole part -/

/-- Values fixed in the part at manufacture (R185; log 7). -/
structure Rom where
  factoryIdentity : Nat
  siliconRevision : Byte
  deriving DecidableEq, Repr

/-- The state of the HB-6 and its queue of commands. -/
structure State where
  powered : Bool
  rom : Rom
  time : Word32
  begun : Bool
  flm : Flm
  ble : Ble
  tpc : PerTruck Tpc
  am : Am
  es : Es
  csl : Csl
  cap : Cap
  store : Store
  nv : NonVolatile
  rdu : PerStream Stream
  clp : Clp
  pending : List Instr
  deriving DecidableEq, Repr

/-- Why the machine stops with a fault: never. The manual gives the part no condition in which it stops without a
state (INVENTORY.md, Faults). -/
inductive Fault where
  deriving DecidableEq, Repr

/-- Why a command has no meaning. -/
inductive Refusal where
  /-- raised by an arm of exec for a row that has no meaning yet: safe; no arm raises it -/
  | notModelled (mnemonic : String)
  deriving DecidableEq, Repr

/-! ## Reset values -/

/-- R17. -/
def Flm.boot (w : Settings) : Flm where
  phase := .beforeFirst
  counter := 0
  image := List.replicate 17 ⟨0, .invalid, 0⟩
  statusWord := 0
  link := .start
  goodRun := 0
  badRun := 0
  lostCount := 0
  mapInForce := w.slotMap
  compareInForce := w.statusCompare
  maskInForce := w.statusMask
  senseInForce := w.statusSense
  lastMatch := false
  matchAge := none
  controlActive := false
  outbound := none

/-- R44, one truck; the request as handed at the last recompute is 0 (log 33). -/
def TruckBlend.boot : TruckBlend where
  enable := true
  dbFault := false
  shortfall := .normal
  below := none
  clear := none
  duration := 0
  request := 0
  handed := 0
  airTarget := 0
  capacity := 0
  dynTarget := 0
  computedAir := 0
  limited := 0

/-- R44. -/
def Ble.boot : Ble where
  blend := .failsafe
  master := false
  trucks := ⟨TruckBlend.boot, TruckBlend.boot⟩
  eAuto := 0
  eDh := 0
  dDem := 0
  capacity := 0
  dAssign := 0
  aFill := 0
  offered := none
  follow := none
  handover := ⟨0, 0, .failsafe, ⟨false, false⟩⟩

/-- R60. -/
def Tpc.boot : Tpc where
  state := .off
  claims := ⟨0, 0, false, .idle⟩
  target := 0
  ramp := none
  window := 0
  progressRef := 0
  noProgress := 0
  latch := .clear
  sensorFault := false
  apply := false
  release := false
  slideRead := .idle

/-- R82, one axle. -/
def AxleRec.boot : AxleRec where
  state := .rolling
  history := []
  confirm := 0
  recovery := 0
  invalid := 0
  overSpeed := 0
  ret := 0

/-- R82, one truck. -/
def TruckSlide.boot : TruckSlide where
  degraded := false
  correction := .idle
  dump := 0
  dumpLimit := 0
  hold := 0
  holdLimit := 0
  settle := 0
  latched := false
  onsetEffort := 0
  onsetRequest := 0
  ceiling := .unlimited
  persist := 0
  sand := false

/-- R82. -/
def Am.boot : Am where
  vref := 0
  known := false
  lostNotified := false
  axles := ⟨AxleRec.boot, AxleRec.boot, AxleRec.boot, AxleRec.boot, AxleRec.boot, AxleRec.boot⟩
  trucks := ⟨TruckSlide.boot, TruckSlide.boot⟩

/-- R97. -/
def Es.boot : Es where
  latch := false
  cause := .none
  entryTime := none
  held := 0
  history := []
  charged := false
  pipeRate := false
  pipeLow := false
  consist := false
  seen := []
  shareFlag := none
  penalty := false
  penaltyCode := 0

/-- R114, R129. -/
def Csl.boot : Csl where
  role := .offline
  conflict := false
  cycle := 0
  cycleTicks := 0
  cycleBegun := false
  roster := []
  enrolSeq := 0
  roll := none
  openings := 0
  todo := []
  line := .idle
  releases := []
  enrolled := false
  leadId := 0
  follow := none
  silence := none
  shareCycle := 0

/-- R147. -/
def Cap.boot : Cap where
  fill := 0
  sealTicks := 0
  marks := 0
  ring := []
  state := .idle
  record := none
  waiting := []
  dropped := 0
  storeFull := 0

/-- R154, R165: the working directory and next record number are those the scan found. -/
def Store.boot (dir : List DirEntry) (next : Nat) : Store where
  dir := dir
  nextNumber := next
  port := none
  last := .hostErase
  writer := none
  dirQueue := []
  hostErase := none
  scrubIndex := 0
  check := none
  scrubLatch := false
  scrubTicks := 0

/-- R176. -/
def Stream.boot : Stream where
  state := .idle
  record := 0
  first := 0
  last := 0
  next := 0
  single := false
  stopAtTrigger := false
  trigIndex := 0
  damaged := 0
  status := none
  ask := false
  buffer := none

/-- R193. -/
def Clp.boot (w image : Settings) (valid : Bool) (notices : List Notice) : Clp where
  receiver := []
  queue := []
  held := false
  replySlot := none
  notices := notices
  reportSlot := none
  reportIn := if w.reportInterval = 0 then none else some w.reportInterval
  lastStream := .s1
  badFrames := 0
  discarded := 0
  lostNotices := 0
  working := w
  image := image
  imageValid := valid
  commit := none
  tx := none

/-- The part at the end of POWER_ON or RESTART, before its first field cycle, from what the scan and the load found. -/
def State.boot (rom : Rom) (nv : NonVolatile) (dir : List DirEntry) (next : Nat) (w image : Settings) (valid : Bool)
    (notices : List Notice) (queue : List Instr) : State where
  powered := true
  rom := rom
  time := 0
  begun := false
  flm := Flm.boot w
  ble := Ble.boot
  tpc := ⟨Tpc.boot, Tpc.boot⟩
  am := Am.boot
  es := Es.boot
  csl := Csl.boot
  cap := Cap.boot
  store := Store.boot dir next
  nv := nv
  rdu := ⟨Stream.boot, Stream.boot⟩
  clp := Clp.boot w image valid notices
  pending := queue

/-- The memory of the first power-on: no record, the factory defaults stored with a correct check (log 8). -/
def NonVolatile.first : NonVolatile where
  stored := List.replicate 48 .free
  pages := []
  area := ⟨Config.defaults, some Config.defaults⟩

/-- The machine right after power-on with the memory of `NonVolatile.first` (log 7, log 8). -/
def State.reset : State :=
  State.boot ⟨1, 0⟩ NonVolatile.first (List.replicate 48 ⟨.free, none⟩) 1 Config.defaults Config.defaults true [] []

end Sys2Proof.Machine
end

