-- ==== Sys2Proof/Machine/Operands.lean ====
section
/-! DEFINITION. Operand forms: access by truck, axle and stream, numbers in frames (R195, R196), the CRC of R194, the
codes of R195, the values of the configuration items (R197, section 11.4), consist line frames (section 12.5, R99), and
the request forms of R178. -/
namespace Sys2Proof

/-! ## Access by truck, axle, stream -/

def PerTruck.get {α : Type} (p : PerTruck α) : Truck → α
  | .t1 => p.t1
  | .t2 => p.t2

def PerTruck.set {α : Type} (p : PerTruck α) (t : Truck) (a : α) : PerTruck α :=
  match t with
  | .t1 => { p with t1 := a }
  | .t2 => { p with t2 := a }

def PerTruck.map {α β : Type} (f : α → β) (p : PerTruck α) : PerTruck β := ⟨f p.t1, f p.t2⟩

def PerAxle.get {α : Type} (p : PerAxle α) : Axle → α
  | .a1 => p.a1
  | .a2 => p.a2
  | .a3 => p.a3
  | .a4 => p.a4
  | .a5 => p.a5
  | .a6 => p.a6

def PerAxle.set {α : Type} (p : PerAxle α) (a : Axle) (x : α) : PerAxle α :=
  match a with
  | .a1 => { p with a1 := x }
  | .a2 => { p with a2 := x }
  | .a3 => { p with a3 := x }
  | .a4 => { p with a4 := x }
  | .a5 => { p with a5 := x }
  | .a6 => { p with a6 := x }

def PerAxle.map {α β : Type} (f : Axle → α → β) (p : PerAxle α) : PerAxle β :=
  ⟨f .a1 p.a1, f .a2 p.a2, f .a3 p.a3, f .a4 p.a4, f .a5 p.a5, f .a6 p.a6⟩

def PerAxle.toList {α : Type} (p : PerAxle α) : List α := [p.a1, p.a2, p.a3, p.a4, p.a5, p.a6]

/-- The three axles of a truck (scope file, section 5.2). -/
def PerAxle.ofTruck {α : Type} (p : PerAxle α) : Truck → List α
  | .t1 => [p.a1, p.a2, p.a3]
  | .t2 => [p.a4, p.a5, p.a6]

/-- The measurement channel of an axle's speed (section 1.2). -/
def Axle.channel : Axle → Nat
  | .a1 => 0
  | .a2 => 1
  | .a3 => 2
  | .a4 => 3
  | .a5 => 4
  | .a6 => 5

def PerStream.get {α : Type} (p : PerStream α) : StreamNo → α
  | .s0 => p.s0
  | .s1 => p.s1

def PerStream.set {α : Type} (p : PerStream α) (n : StreamNo) (a : α) : PerStream α :=
  match n with
  | .s0 => { p with s0 := a }
  | .s1 => { p with s1 := a }

/-- Measurement channels of a truck: BC, DB_AVAIL, DB_ACH (section 1.2). -/
def Truck.bcChannel : Truck → Nat
  | .t1 => 6
  | .t2 => 7

def Truck.availChannel : Truck → Nat
  | .t1 => 13
  | .t2 => 14

def Truck.achievedChannel : Truck → Nat
  | .t1 => 15
  | .t2 => 16

/-! ## Numbers in frames (R195, R196) -/

/-- One byte, modulo 256. -/
def u8 (n : Nat) : List Byte := [BitVec.ofNat 8 n]

/-- Two bytes, most significant first, modulo 2^16. -/
def u16 (n : Nat) : List Byte := [BitVec.ofNat 8 (n / 256), BitVec.ofNat 8 n]

/-- Four bytes, most significant first, modulo 2^32. -/
def u32 (n : Nat) : List Byte := u16 (n / 65536) ++ u16 n

/-- A flag sent as a byte (R195). -/
def flagByte (b : Bool) : List Byte := u8 b.toNat

/-- Byte `i` of a payload, 0 beyond its end. -/
def rd8 (p : List Byte) (i : Nat) : Nat := (p.getD i 0).toNat

/-- The 2-byte number at place `i`. -/
def rd16 (p : List Byte) (i : Nat) : Nat := rd8 p i * 256 + rd8 p (i + 1)

/-- The 4-byte number at place `i`. -/
def rd32 (p : List Byte) (i : Nat) : Nat := rd16 p i * 65536 + rd16 p (i + 2)

/-- The 3-byte number at place `i`. -/
def rd24 (p : List Byte) (i : Nat) : Nat := rd8 p i * 65536 + rd16 p (i + 1)

/-- The bits of a field of `w` bits, most significant first (R196). -/
def fieldBits (w v : Nat) : List Bool := (List.range w).map (fun i => v.testBit (w - 1 - i))

/-- Bytes of a bit stream, bit 7 first, the last byte filled with zeros (R196). -/
def bitsToBytes : List Bool → List Byte
  | b7 :: b6 :: b5 :: b4 :: b3 :: b2 :: b1 :: b0 :: rest =>
    BitVec.ofNat 8 (b7.toNat * 128 + b6.toNat * 64 + b5.toNat * 32 + b4.toNat * 16 + b3.toNat * 8 + b2.toNat * 4 +
      b1.toNat * 2 + b0.toNat) :: bitsToBytes rest
  | [] => []
  | part => [BitVec.ofNat 8 (part.foldl (fun n b => n * 2 + b.toNat) 0 * 2 ^ (8 - part.length))]

/-- Fields of (width, value) packed without gaps (R196). -/
def packFields (fs : List (Nat × Nat)) : List Byte := bitsToBytes (fs.flatMap (fun f => fieldBits f.1 f.2))

/-! ## The check of the links (R194) -/

/-- One bit of the CRC register, polynomial 0x1021. -/
def crcShift (c : Word16) : Word16 := if c.msb then (c <<< 1) ^^^ 0x1021#16 else c <<< 1

/-- One byte into the CRC register, most significant bit first. -/
def crcByte (c : Word16) (b : Byte) : Word16 :=
  crcShift (crcShift (crcShift (crcShift (crcShift (crcShift (crcShift (crcShift (c ^^^ (b.zeroExtend 16 <<< 8)))))))))

/-- The CRC-16 of R194 over a list of bytes. -/
def crc16 (bs : List Byte) : Word16 := bs.foldl crcByte 0xFFFF#16

/-- The two bytes of a 16-bit word, high byte first. -/
def wordBytes (w : Word16) : List Byte := u16 w.toNat

/-! ## Codes (R195) -/

def ReplyStatus.code : ReplyStatus → Nat
  | .ok => 0
  | .accepted => 1
  | .unknownKind => 2
  | .badLength => 3
  | .badValue => 4
  | .wrongRole => 5
  | .wrongState => 6
  | .busy => 7
  | .moving => 8
  | .holdTime => 9
  | .isProtected => 10
  | .noRecord => 11
  | .notAcked => 12
  | .storeFull => 13

def BlendState.code : BlendState → Nat
  | .released => 0
  | .dynamic => 1
  | .blended => 2
  | .air => 3
  | .emergency => 4
  | .failsafe => 5

def LinkState.code : LinkState → Nat
  | .start => 0
  | .up => 1
  | .degraded => 2
  | .lost => 3

def ChannelState.code : ChannelState → Nat
  | .off => 0
  | .lapped => 1
  | .applying => 2
  | .releasing => 3
  | .dumping => 4
  | .fault => 5

def ChannelFaultCause.code : ChannelFaultCause → Nat
  | .noApply => 1
  | .noRelease => 2
  | .bcInvalid => 3

def Correction.code : Correction → Nat
  | .idle => 0
  | .dumping => 1
  | .reapplyHold => 2
  | .settling => 3

def AxleState.code : AxleState → Nat
  | .rolling => 0
  | .suspect => 1
  | .sliding => 2
  | .recovery => 3
  | .excluded => 4

def ShortfallState.code : ShortfallState → Nat
  | .normal => 0
  | .shortfall => 1
  | .fault => 2

def Validity.code : Validity → Nat
  | .valid => 0
  | .stale => 1
  | .invalid => 2

def Role.code : Role → Nat
  | .offline => 0
  | .lead => 1
  | .trail => 2

def Follow.code : Follow → Nat
  | .waiting => 0
  | .following => 1
  | .inLocal => 2

def EntryCause.code : EntryCause → Nat
  | .none => 0
  | .pipeRate => 1
  | .pipeLow => 2
  | .hostApply => 3
  | .consist => 4

def Source.code : Source → Nat
  | .emergency => 0
  | .unitLost => 1
  | .linkLost => 2
  | .penalty => 3
  | .slidePersist => 4
  | .blendFault => 5
  | .statusMatch => 6
  | .hostMark => 7

/-- The protected class (R134). -/
def Source.protectedClass : Source → Bool
  | .emergency => true
  | .unitLost => true
  | .linkLost => true
  | .penalty => false
  | .slidePersist => false
  | .blendFault => false
  | .statusMatch => false
  | .hostMark => false

def CaptureState.code : CaptureState → Nat
  | .idle => 0
  | .allocating => 1
  | .capturing => 2
  | .closing => 3

def CloseStatus.code : CloseStatus → Nat
  | .complete => 0
  | .truncated => 1
  | .storeError => 2
  | .interrupted => 3

def Completion.code : Completion → Nat
  | .windowEnd => 0
  | .triggerPoint => 1
  | .singleDone => 2
  | .recordGone => 3
  | .aborted => 4

def Truck.code : Truck → Nat
  | .t1 => 1
  | .t2 => 2

def StreamNo.code : StreamNo → Nat
  | .s0 => 0
  | .s1 => 1

def Sense.code : Sense → Nat
  | .edge => 0
  | .level => 1

def EmergDynamic.code : EmergDynamic → Nat
  | .keep => 0
  | .drop => 1

def StoreMode.code : StoreMode → Nat
  | .interleaved => 0
  | .burst => 1

def ExitManner.code : ExitManner → Nat
  | .reset => 0
  | .leadClear => 1

def RollStatus.code : RollStatus → Nat
  | .complete => 0
  | .rosterFull => 1

def Machine.EntryState.code : Machine.EntryState → Nat
  | .active => 0
  | .lost => 1

/-- Truncated to 0.1 kN, or 0xFFFF for OPEN (R79, R195). -/
def Ceiling.deci : Ceiling → Nat
  | .unlimited => 0xFFFF
  | .finite c => c / 10

/-! ## Configuration items (section 11.4, R197) -/

/-- No two channels in the same nonzero slot (R12). -/
def slotsDistinct : List Nat → Bool
  | [] => true
  | s :: rest => (s == 0 || !rest.contains s) && slotsDistinct rest

/-- Strictly ascending speeds (R23). -/
def speedsAscend : List (Nat × Nat) → Bool
  | a :: b :: rest => decide (a.1 < b.1) && speedsAscend (b :: rest)
  | _ => true

/-- Number of quantities named in a mask (R145). -/
def maskCount (m : BitVec 24) : Nat := ((List.range 24).filter (fun n => m.getLsbD n)).length

/-- Item `n` of a set lies within its range, at its step (table of section 11.4; R13, R23, R145). The two-valued
items 5, 15 and 28 are held as one of their two values, so they are always in range (log 12). -/
def itemInRange (n : Nat) (s : Settings) : Bool :=
  match n with
  | 1 => decide (s.unitIdentity ≤ 4294967294)
  | 2 => s.slotMap.length == 17 && s.slotMap.all (· ≤ 31) && slotsDistinct s.slotMap
  | 6 => decide (400 ≤ s.pipeNominal ∧ s.pipeNominal ≤ 600)
  | 7 => decide (50 ≤ s.autoGain ∧ s.autoGain ≤ 500)
  | 8 => decide (1000 ≤ s.dynHandleFull ∧ s.dynHandleFull ≤ 6000)
  | 9 => decide (100 ≤ s.airGain ∧ s.airGain ≤ 1000)
  | 10 => decide (200 ≤ s.serviceMax ∧ s.serviceMax ≤ 450)
  | 11 => decide (300 ≤ s.emergPressure ∧ s.emergPressure ≤ 500)
  | 12 => decide (20 ≤ s.airRate ∧ s.airRate ≤ 200)
  | 13 => decide (20 ≤ s.dynRate ∧ s.dynRate ≤ 400)
  | 14 => s.dbCurve.length == 16 && s.dbCurve.all (fun p => p.1 ≤ 15000 && p.2 ≤ 3000) && speedsAscend s.dbCurve
  | 16 => decide (50 ≤ s.slideAbs ∧ s.slideAbs ≤ 500)
  | 17 => decide (1 ≤ s.slideRel ∧ s.slideRel ≤ 10)
  | 18 => decide (1000 ≤ s.dumpLimit ∧ s.dumpLimit ≤ 5000)
  | 19 => decide (500 ≤ s.reapplyHold ∧ s.reapplyHold ≤ 3000)
  | 20 => decide (60 ≤ s.ceilingFactor ∧ s.ceilingFactor ≤ 95)
  | 21 => decide (2 ≤ s.ceilingRise ∧ s.ceilingRise ≤ 50)
  | 22 => decide (200 ≤ s.ceilingFloor ∧ s.ceilingFloor ≤ 1000)
  | 23 => decide (5 ≤ s.refDecelLimit ∧ s.refDecelLimit ≤ 50)
  | 24 => decide (s.preTrigger ≤ 256)
  | 25 => decide (50 ≤ s.postTrigger ∧ s.postTrigger ≤ 1024)
  | 27 => decide (maskCount s.recordChannels ≤ 16)
  | 29 => s.reportInterval == 0 ||
      decide (20 ≤ s.reportInterval ∧ s.reportInterval ≤ 1000 ∧ s.reportInterval % 20 = 0)
  | _ => true

/-- The item numbers in order. -/
def allItems : List Nat := (List.range 29).map (· + 1)

/-- The first item of a set that is out of its range (R189). -/
def Settings.firstBad (s : Settings) : Option Nat := allItems.find? (fun n => !itemInRange n s)

/-- `dst` with item `n` taken from `src`. -/
def Settings.copyItem (n : Nat) (src dst : Settings) : Settings :=
  match n with
  | 1 => { dst with unitIdentity := src.unitIdentity }
  | 2 => { dst with slotMap := src.slotMap }
  | 3 => { dst with statusCompare := src.statusCompare }
  | 4 => { dst with statusMask := src.statusMask }
  | 5 => { dst with statusSense := src.statusSense }
  | 6 => { dst with pipeNominal := src.pipeNominal }
  | 7 => { dst with autoGain := src.autoGain }
  | 8 => { dst with dynHandleFull := src.dynHandleFull }
  | 9 => { dst with airGain := src.airGain }
  | 10 => { dst with serviceMax := src.serviceMax }
  | 11 => { dst with emergPressure := src.emergPressure }
  | 12 => { dst with airRate := src.airRate }
  | 13 => { dst with dynRate := src.dynRate }
  | 14 => { dst with dbCurve := src.dbCurve }
  | 15 => { dst with emergDynamic := src.emergDynamic }
  | 16 => { dst with slideAbs := src.slideAbs }
  | 17 => { dst with slideRel := src.slideRel }
  | 18 => { dst with dumpLimit := src.dumpLimit }
  | 19 => { dst with reapplyHold := src.reapplyHold }
  | 20 => { dst with ceilingFactor := src.ceilingFactor }
  | 21 => { dst with ceilingRise := src.ceilingRise }
  | 22 => { dst with ceilingFloor := src.ceilingFloor }
  | 23 => { dst with refDecelLimit := src.refDecelLimit }
  | 24 => { dst with preTrigger := src.preTrigger }
  | 25 => { dst with postTrigger := src.postTrigger }
  | 26 => { dst with triggerEnable := src.triggerEnable }
  | 27 => { dst with recordChannels := src.recordChannels }
  | 28 => { dst with storeMode := src.storeMode }
  | 29 => { dst with reportInterval := src.reportInterval }
  | _ => dst

/-- Item `n` has the same value in both sets. -/
def Settings.sameItem (n : Nat) (a b : Settings) : Bool := decide (Settings.copyItem n a b = b)

/-- The encoding of item `n` in CONFIG_READ; `sub` names the channel of SLOT_MAP (R197, R134, R186). -/
def itemBytes (n sub : Nat) (s : Settings) : List Byte :=
  match n with
  | 1 => u32 s.unitIdentity
  | 2 => u8 (s.slotMap.getD sub 0)
  | 3 => wordBytes s.statusCompare
  | 4 => wordBytes s.statusMask
  | 5 => u8 s.statusSense.code
  | 6 => u16 s.pipeNominal
  | 7 => u16 s.autoGain
  | 8 => u16 s.dynHandleFull
  | 9 => u16 s.airGain
  | 10 => u16 s.serviceMax
  | 11 => u16 s.emergPressure
  | 12 => u16 s.airRate
  | 13 => u16 s.dynRate
  | 14 => s.dbCurve.flatMap (fun p => u16 p.1 ++ u16 p.2)
  | 15 => u8 s.emergDynamic.code
  | 16 => u16 s.slideAbs
  | 17 => u8 s.slideRel
  | 18 => u32 s.dumpLimit
  | 19 => u32 s.reapplyHold
  | 20 => u8 s.ceilingFactor
  | 21 => u16 s.ceilingRise
  | 22 => u16 s.ceilingFloor
  | 23 => u16 s.refDecelLimit
  | 24 => u16 s.preTrigger
  | 25 => u16 s.postTrigger
  | 26 => [s.triggerEnable ||| 1]
  | 27 => u8 (s.recordChannels.toNat / 65536) ++ u16 s.recordChannels.toNat
  | 28 => u8 s.storeMode.code
  | 29 => u32 s.reportInterval
  | _ => []

/-- The points of a DB_CURVE value, one for each 4 bytes (R197). -/
def curvePoints : List Byte → List (Nat × Nat)
  | a :: b :: c :: d :: rest => (a.toNat * 256 + b.toNat, c.toNat * 256 + d.toNat) :: curvePoints rest
  | _ => []

/-- The channels named in a SLOT_MAP change mask, bits 0 to 16 (R197). -/
def namedChannels (mask : Nat) : List Nat := (List.range 17).filter (fun n => mask.testBit n)

/-- A slot map with the named channels given new slots (R13). -/
def remap (map : List Nat) : List Nat → List Byte → List Nat
  | c :: cs, b :: bs => remap (map.set c b.toNat) cs bs
  | _, _ => map

/-- The length, in bytes, of the value of item `n` in CONFIG_WRITE (R197); `v` is the value, whose mask fixes the
length of a SLOT_MAP write. -/
def itemLength (n : Nat) (v : List Byte) : Nat :=
  match n with
  | 1 | 18 | 19 | 29 => 4
  | 2 => 3 + (namedChannels (rd24 v 0)).length
  | 5 | 15 | 17 | 20 | 28 => 1
  | 14 => 64
  | 27 => 3
  | _ => 2

/-- A two-valued item code is 0 or 1 (R195). -/
def codeInRange (n : Nat) (v : List Byte) : Bool :=
  match n with
  | 5 | 15 | 28 => decide (rd8 v 0 ≤ 1)
  | _ => true

/-- The set with item `n` given the value encoded in `v` (R197, R187). TRIGGER_ENABLE keeps unnamed sources and the
EMERGENCY source (R134). -/
def Settings.write (n : Nat) (v : List Byte) (s : Settings) : Settings :=
  match n with
  | 1 => { s with unitIdentity := rd32 v 0 }
  | 2 => { s with slotMap := remap s.slotMap (namedChannels (rd24 v 0)) (v.drop 3) }
  | 3 => { s with statusCompare := BitVec.ofNat 16 (rd16 v 0) }
  | 4 => { s with statusMask := BitVec.ofNat 16 (rd16 v 0) }
  | 5 => { s with statusSense := if rd8 v 0 = 0 then .edge else .level }
  | 6 => { s with pipeNominal := rd16 v 0 }
  | 7 => { s with autoGain := rd16 v 0 }
  | 8 => { s with dynHandleFull := rd16 v 0 }
  | 9 => { s with airGain := rd16 v 0 }
  | 10 => { s with serviceMax := rd16 v 0 }
  | 11 => { s with emergPressure := rd16 v 0 }
  | 12 => { s with airRate := rd16 v 0 }
  | 13 => { s with dynRate := rd16 v 0 }
  | 14 => { s with dbCurve := curvePoints v }
  | 15 => { s with emergDynamic := if rd8 v 0 = 0 then .keep else .drop }
  | 16 => { s with slideAbs := rd16 v 0 }
  | 17 => { s with slideRel := rd8 v 0 }
  | 18 => { s with dumpLimit := rd32 v 0 }
  | 19 => { s with reapplyHold := rd32 v 0 }
  | 20 => { s with ceilingFactor := rd8 v 0 }
  | 21 => { s with ceilingRise := rd16 v 0 }
  | 22 => { s with ceilingFloor := rd16 v 0 }
  | 23 => { s with refDecelLimit := rd16 v 0 }
  | 24 => { s with preTrigger := rd16 v 0 }
  | 25 => { s with postTrigger := rd16 v 0 }
  | 26 =>
    let mask : BitVec 8 := v.getD 0 0 &&& ~~~ 1#8
    { s with triggerEnable := (s.triggerEnable &&& ~~~ mask) ||| (v.getD 1 0 &&& mask) }
  | 27 => { s with recordChannels := BitVec.ofNat 24 (rd24 v 0) }
  | 28 => { s with storeMode := if rd8 v 0 = 0 then .interleaved else .burst }
  | 29 => { s with reportInterval := rd32 v 0 }
  | _ => s

/-- A source is admitted: always for EMERGENCY, else while enabled (R134). -/
def Settings.admits (s : Settings) (src : Source) : Bool :=
  src == .emergency || s.triggerEnable.getLsbD src.code

namespace Machine

/-! ## Inbound field frames (R3, section 12.4) -/

/-- The bytes that the field link's CRC covers: header word and slots (R194). -/
def fieldBytes (header : Word16) (slots : List Word16) : List Byte := (header :: slots).flatMap wordBytes

/-- The slots of an inbound frame that makes the cycle good: complete, correct CRC, echo of the cycle's counter (R3). -/
def goodSlots (counter : Word16) : Inbound → Option (List Word16)
  | .nothing => none
  | .late => none
  | .lineIdle => none
  | .frame header slots crc =>
    if slots.length = 32 ∧ crc = crc16 (fieldBytes header slots) ∧ header = counter then some slots else none

/-! ## Consist line frames (section 12.5, R99) -/

def ConsistBody.kind : ConsistBody → Nat
  | .share .. => 1
  | .status .. => 2
  | .roll .. => 3
  | .rollAnswer .. => 4
  | .enrol => 5
  | .enrolAck => 6
  | .release => 7

/-- The flag byte of a STATUS frame, slide active T1 in bit 0 (section 12.5). -/
def StatusFlags.byte (f : StatusFlags) : Nat :=
  f.slide.t1.toNat + f.slide.t2.toNat * 2 + f.emergency.toNat * 4 + f.fault.t1.toNat * 8 + f.fault.t2.toNat * 16 +
    f.failsafe.toNat * 32 + f.isLocal.toNat * 64

def StatusFlags.ofByte (n : Nat) : StatusFlags where
  slide := ⟨n.testBit 0, n.testBit 1⟩
  emergency := n.testBit 2
  fault := ⟨n.testBit 3, n.testBit 4⟩
  failsafe := n.testBit 5
  isLocal := n.testBit 6

def ConsistBody.payload : ConsistBody → List Byte
  | .share c d f i e b p m =>
    wordBytes c ++ u16 d ++ u16 f ++ u16 i ++ u8 (e.toNat + b.toNat * 2 + p.toNat * 4 + m.toNat * 8)
  | .status c cap ach b1 b2 fl bl => wordBytes c ++ u16 cap ++ u16 ach ++ u16 b1 ++ u16 b2 ++ u8 fl.byte ++ [bl]
  | .roll l h => u32 l ++ u32 h
  | .rollAnswer i => u32 i
  | .enrol => []
  | .enrolAck => []
  | .release => []

/-- The bytes of a frame on the consist line, from the start byte to the CRC. -/
def ConsistFrame.bytes (f : ConsistFrame) : List Byte :=
  let body := u8 f.body.kind ++ u32 f.source ++ u32 f.dest ++ f.body.payload
  0xC3#8 :: body ++ wordBytes (crc16 body)

/-- The body that a kind code and a payload spell, when the payload has the kind's length. -/
def ConsistBody.parse (kind : Nat) (p : List Byte) : Option ConsistBody :=
  match kind, p.length with
  | 1, 9 =>
    let f := rd8 p 8
    some (.share (BitVec.ofNat 16 (rd16 p 0)) (rd16 p 2) (rd16 p 4) (rd16 p 6) (f.testBit 0) (f.testBit 1)
      (f.testBit 2) (f.testBit 3))
  | 2, 12 =>
    some (.status (BitVec.ofNat 16 (rd16 p 0)) (rd16 p 2) (rd16 p 4) (rd16 p 6) (rd16 p 8) (.ofByte (rd8 p 10))
      (p.getD 11 0))
  | 3, 8 => some (.roll (rd32 p 0) (rd32 p 4))
  | 4, 4 => some (.rollAnswer (rd32 p 0))
  | 5, 0 => some .enrol
  | 6, 0 => some .enrolAck
  | 7, 0 => some .release
  | _, _ => none

/-- The clean frame that a receiver took, or none for a garbled one (R99). -/
def cleanFrame (rx : LineRx) : Option ConsistFrame :=
  if rx.breakAndMark && rx.stopBits && rx.noGap then
    match rx.bytes with
    | start :: rest =>
      let covered := rest.take (rest.length - 2)
      if start = 0xC3#8 ∧ 11 ≤ rest.length ∧ rest.drop (rest.length - 2) = wordBytes (crc16 covered) then
        (ConsistBody.parse (rd8 covered 0) (covered.drop 9)).map (fun b => ⟨rd32 covered 1, rd32 covered 5, b⟩)
      else none
    | [] => none
  else none

/-- A kind that a lead sends (R112). -/
def ConsistBody.leadOwned : ConsistBody → Bool
  | .share .. => true
  | .roll .. => true
  | .enrol => true
  | .release => true
  | .status .. => false
  | .rollAnswer .. => false
  | .enrolAck => false

/-! ## Requests (R178, section 12.2) -/

/-- The rows of the table that name requests, by which a request frame is taken (log 23). -/
inductive ReqRow where
  | unknownKind | identify | status | configRead | configWrite | writeUnitIdentity | writeSlotMap | writeDbCurve
  | writeTriggerEnable | writeRecordChannels | writeReportInterval | configCommit | setRoleOffline | setRoleLead
  | setRoleTrail | rollCall | rosterRead | rosterRelease | dynamicEnable | penaltySet | penaltyClear | emergencyApply
  | emergencyReset | faultClearChannel | faultClearDb | faultClearBoth | mark | recordList | recordProtect
  | recordUnprotect | recordErase | streamOpen | streamAck | streamAbort | restart
  deriving DecidableEq, Repr

/-- The row of a request frame. A frame whose sub-code names none of several rows of one kind belongs to the first of
them (log 23). -/
def rowOf (f : ReqFrame) : ReqRow :=
  match f.kind.toNat with
  | 0x01 => .identify
  | 0x02 => .status
  | 0x03 => .configRead
  | 0x04 =>
    match f.payload with
    | [] => .configWrite
    | n :: _ =>
      match n.toNat with
      | 1 => .writeUnitIdentity
      | 2 => .writeSlotMap
      | 14 => .writeDbCurve
      | 26 => .writeTriggerEnable
      | 27 => .writeRecordChannels
      | 29 => .writeReportInterval
      | _ => .configWrite
  | 0x05 => .configCommit
  | 0x06 => if f.payload = [1#8] then .setRoleLead else if f.payload = [2#8] then .setRoleTrail else .setRoleOffline
  | 0x07 => .rollCall
  | 0x08 => .rosterRead
  | 0x09 => .rosterRelease
  | 0x0A => .dynamicEnable
  | 0x0B => if f.payload = [] then .penaltyClear else .penaltySet
  | 0x0C => .emergencyApply
  | 0x0D => .emergencyReset
  | 0x0E =>
    match rd8 f.payload 1 with
    | 1 => .faultClearDb
    | 2 => .faultClearBoth
    | _ => .faultClearChannel
  | 0x0F => .mark
  | 0x10 => .recordList
  | 0x11 => if rd8 f.payload 4 = 1 then .recordUnprotect else .recordProtect
  | 0x12 => .recordErase
  | 0x13 => .streamOpen
  | 0x14 => .streamAck
  | 0x15 => .streamAbort
  | 0x16 => .restart
  | _ => .unknownKind

/-- Test 1 of R178: the kind is one of the 22 request kinds. -/
def kindKnown (f : ReqFrame) : Bool := decide (1 ≤ f.kind.toNat ∧ f.kind.toNat ≤ 22)

/-- Item numbers 1 to 29 (section 11.4). -/
def itemKnown (n : Nat) : Bool := decide (1 ≤ n ∧ n ≤ 29)

/-- Test 2 of R178: the payload has a length its kind allows. A configuration request that names no defined item may have any
length that some item's form has: 1 or 2 bytes in CONFIG_READ, 2 to 65 in CONFIG_WRITE (R197; log 24). -/
def lengthAllowed (f : ReqFrame) : Bool :=
  let p := f.payload
  match f.kind.toNat with
  | 0x03 =>
    if itemKnown (rd8 p 0) then p.length == (if rd8 p 0 = 2 then 2 else 1)
    else decide (1 ≤ p.length ∧ p.length ≤ 2)
  | 0x04 =>
    if itemKnown (rd8 p 0) then p.length == 1 + itemLength (rd8 p 0) (p.drop 1)
    else decide (2 ≤ p.length ∧ p.length ≤ 65)
  | 0x06 | 0x14 | 0x15 => p.length == 1
  | 0x09 | 0x10 | 0x12 => p.length == 4
  | 0x0A | 0x0E => p.length == 2
  | 0x0B => decide (p.length ≤ 1)
  | 0x11 => p.length == 5
  | 0x13 => p.length == 11
  | _ => p.length == 0

/-- Test 3 of R178: every sub-code is defined. -/
def subcodesDefined (f : ReqFrame) : Bool :=
  let p := f.payload
  match f.kind.toNat with
  | 0x03 => itemKnown (rd8 p 0) && (rd8 p 0 != 2 || decide (rd8 p 1 ≤ 16))
  | 0x04 => itemKnown (rd8 p 0)
  | 0x06 | 0x15 => decide (rd8 p 0 ≤ 2)
  | 0x11 => decide (rd8 p 4 ≤ 1)
  | 0x13 | 0x14 => decide (rd8 p 0 ≤ 1)
  | _ => true

/-- The refusal of tests 1 to 3 of R178, with the payload after the status byte, or none when they pass. The position
is 1 for KIND and 2 for SUBCODE. -/
def precheck (f : ReqFrame) : Option (ReplyStatus × List Byte) :=
  if !kindKnown f then some (.unknownKind, u8 1)
  else if !lengthAllowed f then some (.badLength, [])
  else if !subcodesDefined f then some (.unknownKind, u8 2)
  else none

/-- The reply to a request (R178, R198): kind 0x80 plus the request kind; for an unknown kind 0xFF with the received
kind after the position. -/
def replyTo (f : ReqFrame) (st : ReplyStatus) (payload : List Byte) : Reply :=
  if kindKnown f then ⟨BitVec.ofNat 8 (0x80 + f.kind.toNat), f.tag, st, payload⟩
  else ⟨0xFF#8, f.tag, st, payload ++ [f.kind]⟩

/-- The stream that a request byte names (R195). -/
def streamOf (n : Nat) : StreamNo := if n = 0 then .s0 else .s1

end Machine
end Sys2Proof
end

