-- ==== Sys2Proof/Machine/Flags.lean ====
section
/-! DEFINITION. Conditions and status words computed from State: validity of a measurement, the stationary condition,
the identity in force, the part status word (R2), the flags of a STATUS answer (R110), the state summary and quantities
of a sample block (R131, R132), the STATUS content (R184, section 12.2). -/
namespace Sys2Proof.Machine

/-! ## Conditions -/

/-- Channel `n` of the measurement image (R4). -/
def State.chan (s : State) (n : Nat) : Channel := s.flm.image.getD n ⟨0, .invalid, 0⟩

/-- The value with which a reader counts a channel: the held value while VALID or STALE, `d` while INVALID (R20). -/
def Channel.usable (c : Channel) (d : Nat) : Nat := if c.validity = .invalid then d else c.value

/-- The field link is UP or DEGRADED, so CONTROL_ACTIVE is on (R11). -/
def LinkState.connected : LinkState → Bool
  | .start => false
  | .up => true
  | .degraded => true
  | .lost => false

/-- V_ref KNOWN and below 0.50 km/h (scope file, section 4, Stationary). -/
def State.stationary (s : State) : Bool := s.am.known && decide (s.am.vref < 5000)

/-- V_ref as handed on and reported, truncated to 0.01 km/h (R63). -/
def State.vrefCenti (s : State) : Nat := s.am.vref / 100

/-- The unit identity in force (R185, R188). -/
def State.ownIdentity (s : State) : Nat :=
  if s.clp.working.unitIdentity = 0 then s.rom.factoryIdentity else s.clp.working.unitIdentity

/-- The unit follows its lead (R111). -/
def State.following (s : State) : Bool := s.csl.role == .trail && s.csl.follow == some .following

/-- The lead coordinates the consist: role LEAD and not in CONFLICT (R113). -/
def State.leading (s : State) : Bool := s.csl.role == .lead && !s.csl.conflict

/-- DIR is on while a frame is being sent (R98). -/
def State.dir (s : State) : Bool :=
  match s.csl.line with
  | .idle => false
  | .sending _ _ => true
  | .window _ => false

/-- The apply valve driver output of a truck, gated by CONTROL_ACTIVE (R11, R50). -/
def State.applyDriver (s : State) (t : Truck) : Bool := s.flm.controlActive && (s.tpc.get t).apply

/-- The release valve driver output of a truck, gated by CONTROL_ACTIVE (R11, R50). -/
def State.releaseDriver (s : State) (t : Truck) : Bool := s.flm.controlActive && (s.tpc.get t).release

/-- The working set differs from the stored-set image, as it always does while the image is INVALID (section 11.6). -/
def State.settingsDiffer (s : State) : Bool := !s.clp.imageValid || decide (s.clp.working ≠ s.clp.image)

/-! ## The outbound field frame (R2, section 12.4) -/

/-- Part status word: CONTROL_ACTIVE bit 15, emergency latch bit 14, blend state code bits 2 to 0. -/
def State.partStatus (s : State) : Word16 :=
  BitVec.ofNat 16 (s.flm.controlActive.toNat * 32768 + s.es.latch.toNat * 16384 + s.ble.blend.code)

/-- The dynamic request slot of a truck in kN×10, zero while CONTROL_ACTIVE is off (R11). -/
def State.requestSlot (s : State) (t : Truck) : Word16 :=
  if s.flm.controlActive then BitVec.ofNat 16 ((s.ble.trucks.get t).request / 10) else 0

/-- The sand requests: bit 0 for T1, bit 1 for T2. -/
def State.sandSlot (s : State) : Word16 :=
  BitVec.ofNat 16 ((s.am.trucks.get .t1).sand.toNat + (s.am.trucks.get .t2).sand.toNat * 2)

/-- The 32 slots of the outbound frame (R2). -/
def State.outSlots (s : State) : List Word16 :=
  [s.partStatus, s.requestSlot .t1, s.requestSlot .t2, s.sandSlot] ++ List.replicate 28 0

/-- The bytes of an outbound field frame with its CRC (section 12.4). -/
def OutFrame.bytes (f : OutFrame) : List Byte :=
  let body := fieldBytes f.header f.slots
  body ++ wordBytes (crc16 body)

/-! ## Flags of a STATUS answer (R110) -/

/-- Slide active: DUMPING, REAPPLY_HOLD or SETTLING. -/
def Correction.active (c : Correction) : Bool := c != .idle

/-- The seven flags taken from their owners. -/
def State.statusFlags (s : State) : StatusFlags where
  slide := s.am.trucks.map (fun k => Correction.active k.correction)
  emergency := s.es.latch
  fault := s.ble.handover.fault
  failsafe := !LinkState.connected s.flm.link
  isLocal := s.csl.follow == some .inLocal

/-! ## Sample block (R131, R132) -/

def Entry.isActive (e : Entry) : Bool := e.state == .active

/-- A BLE quantity: VALID while the BLE recomputes, INVALID with value 0 in FAILSAFE (R131). -/
def State.bleQuantity (s : State) (v : Nat) : Quantity :=
  if LinkState.connected s.flm.link then ⟨v, .valid⟩ else ⟨0, .invalid⟩

/-- The 24 recordable quantities in number order. -/
def State.quantities (s : State) : List Quantity :=
  (List.range 17).map (fun n => ⟨(s.chan n).value, (s.chan n).validity⟩) ++
    [⟨s.vrefCenti, if s.am.known then .valid else .invalid⟩, s.bleQuantity s.ble.eAuto, s.bleQuantity s.ble.eDh,
      s.bleQuantity s.ble.dAssign, s.bleQuantity s.ble.aFill, ⟨(s.am.trucks.get .t1).ceiling.deci, .valid⟩,
      ⟨(s.am.trucks.get .t2).ceiling.deci, .valid⟩]

def State.truckSummary (s : State) (t : Truck) : TruckSummary :=
  ⟨(s.tpc.get t).state, (s.am.trucks.get t).correction, (s.ble.trucks.get t).request / 10⟩

/-- Active unit count (R132). -/
def State.activeUnits (s : State) : Nat :=
  if s.csl.role = .lead then 1 + (s.csl.roster.filter Entry.isActive).length else 1

/-- The state summary (R132). -/
def State.summary (s : State) : Summary where
  blend := s.ble.blend
  trucks := ⟨s.truckSummary .t1, s.truckSummary .t2⟩
  axles := s.am.axles.map (fun _ a => a.state)
  vrefKnown := s.am.known
  link := s.flm.link
  role := s.csl.role
  follow := s.csl.follow
  conflict := s.csl.conflict
  activeUnits := s.activeUnits
  emergency := s.es.latch
  cause := s.es.cause
  penalty := s.es.penalty
  master := s.ble.master
  sand := s.am.trucks.map (fun k => k.sand)

/-- What a block records of a truck beside the list of R132 (log 44). -/
def State.truckRecorded (s : State) (t : Truck) : TruckRecorded where
  target := (s.tpc.get t).target
  apply := s.applyDriver t
  release := s.releaseDriver t
  capacity := (s.ble.trucks.get t).capacity
  dynTarget := (s.ble.trucks.get t).dynTarget
  computedAir := (s.ble.trucks.get t).computedAir
  airTarget := (s.ble.trucks.get t).airTarget / 100
  limited := (s.ble.trucks.get t).limited
  shortfall := (s.ble.trucks.get t).shortfall
  dbFault := (s.ble.trucks.get t).dbFault
  enable := (s.ble.trucks.get t).enable
  degraded := (s.am.trucks.get t).degraded
  onset := (s.am.trucks.get t).onsetRequest / 10

/-- What a block records beside the lists of R131 and R132 (log 44). -/
def State.alsoRecorded (s : State) : AlsoRecorded where
  trucks := ⟨s.truckRecorded .t1, s.truckRecorded .t2⟩
  dDem := s.ble.dDem
  capacity := s.ble.capacity
  penaltyCode := s.es.penaltyCode

/-- The quantities named in a mask, in number order (R145). -/
def maskedQuantities (mask : BitVec 24) (qs : List Quantity) : List Quantity :=
  (qs.zipIdx.filter (fun q => mask.getLsbD q.2)).map (fun q => q.1)

/-- The stored form of a block (R145). -/
def storedForm (mask : BitVec 24) (b : SampleBlock) : SampleBlock :=
  { b with quantities := maskedQuantities mask b.quantities }

/-! ## STATUS content (R184, section 12.2) -/

/-- Channel fault cause (R57, R184). Where latch and sensor condition are both set, the latch is reported (log 45). -/
def Tpc.faultCode (c : Tpc) : Nat :=
  match c.latch with
  | .noApply => 1
  | .noRelease => 2
  | .clear => if c.sensorFault then 3 else 0

/-- The 16 bytes of one truck. The driver states of R50 and the onset requests of R61 have no place in them (log 45). An
adhesion-limited effort above 65,535 kN×10 is sent modulo 2^16 (log 50). -/
def State.truckContent (s : State) (t : Truck) : List Byte :=
  let c := s.tpc.get t
  let b := s.ble.trucks.get t
  let k := s.am.trucks.get t
  let bc := s.chan t.bcChannel
  u16 c.target ++ u16 bc.value ++ u16 k.ceiling.deci ++ u16 (b.request / 10) ++ u16 (b.airTarget / 100) ++
    u16 b.limited ++ u16 k.persist ++
    packFields [(3, c.state.code), (2, c.faultCode), (2, bc.validity.code)] ++
    packFields [(2, k.correction.code), (2, b.shortfall.code), (1, k.degraded.toNat), (1, b.enable.toNat),
      (1, k.sand.toNat)]

/-- Bytes 65 to 72: capture state and, while not IDLE, the open record's number, primary source and blocks verified, all 0
while IDLE (log 45). -/
def State.captureContent (s : State) : List Byte :=
  match s.cap.record with
  | none => u8 s.cap.state.code ++ u32 0 ++ u8 0 ++ u16 0
  | some r =>
    let blocks := ((s.store.dir.getD r.slot ⟨.free, none⟩).record.map (fun i => i.blocks)).getD 0
    u8 s.cap.state.code ++ u32 r.number ++ u8 r.source.code ++ u16 blocks

/-- The 82 bytes of STATUS content; `time` is the timestamp of the build (R183, R184). The follow state of a unit that is no
trail is sent as 0 (log 45); C and A_fill above 65,535 kN×10 are sent modulo 2^16 (log 50). -/
def State.statusContent (s : State) (time : Word32) : List Byte :=
  u32 time.toNat ++ u8 s.ble.blend.code ++
    u16 s.ble.eAuto ++ u16 s.ble.eDh ++ u16 s.ble.dDem ++ u16 s.ble.capacity ++ u16 s.ble.dAssign ++ u16 s.ble.aFill ++
    s.truckContent .t1 ++ s.truckContent .t2 ++
    packFields (s.am.axles.toList.map (fun a => (3, a.state.code))) ++
    u16 s.vrefCenti ++ flagByte s.am.known ++ u8 s.flm.link.code ++
    u8 s.csl.role.code ++ packFields [(1, s.csl.conflict.toNat), (1, s.csl.enrolled.toNat)] ++
    u8 ((s.csl.follow.map Follow.code).getD 0) ++
    u8 (s.csl.roster.filter Entry.isActive).length ++
    u8 (s.csl.roster.filter (fun e => !Entry.isActive e)).length ++
    flagByte s.csl.roll.isSome ++
    u8 s.es.cause.code ++ u8 s.es.penaltyCode ++ flagByte s.ble.master ++
    s.captureContent ++
    packFields [(1, s.clp.commit.isSome.toNat), (1, s.settingsDiffer.toNat)] ++
    u16 s.cap.storeFull ++ u16 s.clp.lostNotices ++ u16 s.clp.discarded ++ u16 s.clp.badFrames

end Sys2Proof.Machine
end

