-- ==== Sys2Proof/Machine/Ops.lean ====
section
/-! DEFINITION. The operations that several families share: raising a notice (R182), the working directory, stream
completion (R172 to R174), the scrubber's checks (R162 to R164), triggers and captures (R134 to R142), the store port
arbiter (R153 to R155), the transmit arbiter (R181), emergency entry and exit (R88 to R92), and `act`, which runs a
command on a powered part. -/
namespace Sys2Proof.Machine

/-! ## Notices (R182) -/

/-- A count that stops at 65,535. -/
def bump16 (n : Nat) : Nat := min 65535 (n + 1)

/-- Raise a notice: it joins the queue, or is discarded and counted when the queue holds 16 (R182). -/
def raise (b : NoticeBody) (s : State) : State :=
  if s.clp.notices.length < 16 then { s with clp := { s.clp with notices := s.clp.notices ++ [⟨s.time, b⟩] } }
  else { s with clp := { s.clp with lostNotices := bump16 s.clp.lostNotices } }

/-! ## The working directory (R150) -/

/-- The working entry of a slot. -/
def State.entry (s : State) (slot : Nat) : DirEntry := s.store.dir.getD slot ⟨.free, none⟩

/-- Replace the working entry of a slot. -/
def State.setEntry (slot : Nat) (e : DirEntry) (s : State) : State :=
  { s with store := { s.store with dir := s.store.dir.set slot e } }

/-- Change the record that a slot's working entry holds. -/
def State.updRecord (slot : Nat) (f : RecordInfo → RecordInfo) (s : State) : State :=
  s.setEntry slot { s.entry slot with record := (s.entry slot).record.map f }

/-- Change the stored entry of a slot. -/
def State.setStored (slot : Nat) (e : StoredEntry) (s : State) : State :=
  { s with nv := { s.nv with stored := s.nv.stored.set slot e } }

/-- The slot whose working entry holds the record of a number. -/
def State.slotOf (s : State) (number : Nat) : Option Nat :=
  (List.range 48).find? (fun i => ((s.entry i).record.map (fun r => r.number)) == some number)

/-- The record of a number with its slot and slot state. -/
def State.findRecord (s : State) (number : Nat) : Option (Nat × SlotState × RecordInfo) :=
  match s.slotOf number with
  | none => none
  | some i => (s.entry i).record.map (fun r => (i, (s.entry i).state, r))

/-! ## The pages of the memory (R149) -/

/-- The address of a page. -/
def pageAddr (slot page : Nat) : Nat := slot * Config.pagesPerSlot + page

/-- The memory with one page written, kept in rising order of address. -/
def pagesWrite (a : Nat) (p : Page) : List (Nat × Page) → List (Nat × Page)
  | [] => [(a, p)]
  | (b, q) :: rest =>
    if a < b then (a, p) :: (b, q) :: rest
    else if a = b then (a, p) :: rest
    else (b, q) :: pagesWrite a p rest

/-- The page at an address; an address not listed is erased. -/
def pagesRead (ps : List (Nat × Page)) (a : Nat) : Option Page := (ps.find? (fun p => p.1 == a)).map (fun p => p.2)

/-- The memory with the pages of a slot erased (R149). -/
def pagesErase (slot : Nat) (ps : List (Nat × Page)) : List (Nat × Page) :=
  ps.filter (fun p => !(decide (pageAddr slot 0 ≤ p.1) && decide (p.1 < pageAddr (slot + 1) 0)))

/-- The canonical form of the memory: addresses strictly rising. An address not listed is erased, and every page listed
has been written. -/
def Memory.wf : List (Nat × Page) → Bool
  | [] => true
  | (a, _) :: rest => rest.all (fun q => decide (a < q.1)) && Memory.wf rest

/-- The blocks of a page of a slot as stored. -/
def State.pageBlocks (s : State) (slot page : Nat) : List SampleBlock :=
  ((pagesRead s.nv.pages (pageAddr slot page)).map (fun p => p.blocks)).getD []

/-! ## Streams (R172 to R174) -/

/-- A frame of the stream is being sent on the TX line. -/
def State.streamOnLine (s : State) (n : StreamNo) : Bool :=
  match s.clp.tx with
  | some (.stream f) => f.stream == n
  | _ => false

def State.setStream (n : StreamNo) (d : Stream) (s : State) : State := { s with rdu := s.rdu.set n d }

/-- The completion steps of R172: COMPLETE, the status recorded, the next pointer kept, STREAM_DONE raised. -/
def completeStream (n : StreamNo) (c : Completion) (s : State) : State :=
  let d := s.rdu.get n
  raise (.streamDone n d.record c d.next d.damaged)
    (s.setStream n { d with state := .complete, status := some c, ask := false, buffer := none })

/-- A read of the stream in progress completes without being used (R173). -/
def dropStreamRead (n : StreamNo) : PortOp → PortOp
  | .streamRead m slot page used => .streamRead m slot page (used && m != n)
  | .reclaimErase slot => .reclaimErase slot
  | .opening slot r => .opening slot r
  | .page slot page bs => .page slot page bs
  | .dir w r => .dir w r
  | .configItem i => .configItem i
  | .configCheck => .configCheck
  | .scrubRead slot page used => .scrubRead slot page used
  | .hostErase slot => .hostErase slot

/-- Decide the completion of a RUNNING stream (R173, R174): a waiting read is withdrawn, a read in progress is not
used, a frame not begun is discarded; the stream completes at once, or at the end of its frame on the line. A
completion already decided stands. -/
def decideStream (n : StreamNo) (c : Completion) (s : State) : State :=
  let d := s.rdu.get n
  if d.state = .running ∧ d.status = none then
    let s := { s with store := { s.store with port := s.store.port.map (dropStreamRead n) } }
    if s.streamOnLine n then s.setStream n { d with status := some c, ask := false, buffer := none }
    else completeStream n c s
  else s

/-- A stream that reads the record of a number ends RECORD_GONE (R173). -/
def recordGone (number : Nat) (n : StreamNo) (s : State) : State :=
  if (s.rdu.get n).record = number then decideStream n .recordGone s else s

/-! ## The scrubber (R162 to R164) -/

/-- The slot a check takes: the one at the index or the next upward, going round, that holds a CLOSED record (R163). -/
def State.scrubSlot (s : State) : Option Nat :=
  ((List.range 48).map (fun k => (s.store.scrubIndex + k) % 48)).find? (fun i => (s.entry i).state == .closed)

/-- The number of pages that hold counted blocks. -/
def pageCount (blocks : Nat) : Nat := (blocks + 3) / 4

/-- Start a check (R163). A record of 0 blocks completes at the start, and a latched request then starts the next check;
`fuel` bounds the two starts that one latched request allows. -/
def scrubStart : Nat → State → State
  | 0, s => s
  | fuel + 1, s =>
    match s.scrubSlot with
    | none => s
    | some slot =>
      if ((s.entry slot).record.map (fun r => r.blocks)).getD 0 = 0 then
        let s := { s with store := { s.store with scrubIndex := (slot + 1) % 48 } }
        if s.store.scrubLatch then scrubStart fuel { s with store := { s.store with scrubLatch := false } } else s
      else { s with store := { s.store with scrubIndex := slot, check := some ⟨slot, 0, true⟩ } }

/-- The end of a check: a latched request starts the next one at once (R162). -/
def scrubEnd (s : State) : State :=
  let s := { s with store := { s.store with check := none } }
  if s.store.scrubLatch then scrubStart 2 { s with store := { s.store with scrubLatch := false } } else s

/-- A scrub read in progress completes without being used (R164). -/
def dropScrubRead : PortOp → PortOp
  | .scrubRead slot page _ => .scrubRead slot page false
  | .streamRead n slot page used => .streamRead n slot page used
  | .reclaimErase slot => .reclaimErase slot
  | .opening slot r => .opening slot r
  | .page slot page bs => .page slot page bs
  | .dir w r => .dir w r
  | .configItem i => .configItem i
  | .configCheck => .configCheck
  | .hostErase slot => .hostErase slot

/-- Abandon the check of a slot (R164). -/
def scrubAbandon (slot : Nat) (s : State) : State :=
  match s.store.check with
  | none => s
  | some k =>
    if k.slot = slot then scrubEnd { s with store := { s.store with port := s.store.port.map dropScrubRead } } else s

/-- What the readers and the directory client do when a slot that held record `number` goes ERASING: streams end
RECORD_GONE (R173), S0 before S1 (log 39), waiting directory writes of the slot are withdrawn (R156, R161), its scrub check is abandoned. -/
def slotGone (slot number : Nat) (s : State) : State :=
  let s := recordGone number .s1 (recordGone number .s0 s)
  let s := { s with store := { s.store with dirQueue := s.store.dirQueue.filter (fun w => w.slot != slot) } }
  scrubAbandon slot s

/-! ## Slots for captures (R137, R156) -/

/-- The lowest-numbered FREE slot. -/
def State.freeSlot (s : State) : Option Nat := (List.range 48).find? (fun i => (s.entry i).state == .free)

/-- The lower record number of two candidates (slot, number). -/
def lowerNumber (best : Option (Nat × Nat)) (c : Nat × Nat) : Option (Nat × Nat) :=
  match best with
  | none => some c
  | some b => if c.2 < b.2 then some c else some b

/-- The slot and number of an unprotected CLOSED record at slot `i`. -/
def State.reclaimable (s : State) (i : Nat) : Option (Nat × Nat) :=
  if (s.entry i).state = .closed then
    (s.entry i).record.bind (fun r => if r.isProtected then none else some (i, r.number))
  else none

/-- The unprotected CLOSED record with the lowest record number, as (slot, number). -/
def State.reclaimSlot (s : State) : Option (Nat × Nat) :=
  ((List.range 48).filterMap s.reclaimable).foldl lowerNumber none

/-- The record store grants a slot (R137, R152). -/
def State.slotAvailable (s : State) : Bool :=
  decide (s.store.nextNumber ≤ Config.lastRecord) && (s.freeSlot.isSome || s.reclaimSlot.isSome)

/-- The directory entry record of a capture at its opening (R137, R156). The overflow count takes the dropped count. -/
def openingInfo (t : PendingTrigger) (pre : Nat) (s : State) : RecordInfo where
  number := s.store.nextNumber
  source := t.source
  time := t.time
  pre := pre
  blocks := 0
  close := none
  isProtected := t.source.protectedClass
  damaged := false
  mask := t.mask
  secondary := []
  overflow := s.cap.dropped

/-- The CAP's side of an opened record (R137): ALLOCATING, the fixed fields, the dropped count taken. -/
def openRecord (t : PendingTrigger) (pre slot : Nat) (s : State) : State :=
  { s with
    cap := { s.cap with
      state := .allocating
      record := some ⟨s.store.nextNumber, slot, t.source, t.block, t.time, pre, t.post, t.mask, 0, none⟩
      dropped := 0 }
    store := { s.store with nextNumber := s.store.nextNumber + 1 } }

/-- The CAP asks for a slot and opens a record on it, or refuses (R137, R138, R156). -/
def openCapture (t : PendingTrigger) (pre : Nat) (s : State) : State :=
  let info := openingInfo t pre s
  if s.store.nextNumber ≤ Config.lastRecord then
    match s.freeSlot, s.reclaimSlot with
    | some slot, _ =>
      let s := s.setEntry slot ⟨.capturing, some info⟩
      openRecord t pre slot { s with store := { s.store with writer := some .opening } }
    | none, some (slot, old) =>
      let s := slotGone slot old (s.setEntry slot ⟨.erasing, some info⟩)
      openRecord t pre slot { s with store := { s.store with writer := some .erase } }
    | none, none => refuse t s
  else refuse t s
where
  /-- R138: STORE_FULL with the count after the increment; the trigger is discarded. -/
  refuse (t : PendingTrigger) (s : State) : State :=
    let n := bump16 s.cap.storeFull
    raise (.storeFull t.source t.time n) { s with cap := { s.cap with storeFull := n } }

/-! ## Triggers (R134, R140, R141) -/

/-- The first block of a record (R137). -/
def OpenRecord.firstBlock (r : OpenRecord) : Word32 := r.trigBlock - BitVec.ofNat 32 r.pre

/-- The offset of a block in a record, counted across the wrap as though it were not there (R130, R140; log 34). A block
older than the record's first has an offset beyond its span. -/
def OpenRecord.offset (r : OpenRecord) (block : Word32) : Nat := (block - r.firstBlock).toNat

/-- The number of blocks a record spans (R137). -/
def OpenRecord.span (r : OpenRecord) : Nat := r.pre + r.post

/-- A block lies in a record's window, from its first block to its last (R137). -/
def OpenRecord.covers (r : OpenRecord) (block : Word32) : Bool := decide (r.offset block < r.span)

/-- R140 on the directory entry: appended while fewer than 8, else counted; a protected class protects. -/
def addSecondary (src : Source) (offset : Nat) (i : RecordInfo) : RecordInfo :=
  let i := if i.secondary.length < 8 then { i with secondary := i.secondary ++ [(src, offset)] }
    else { i with overflow := bump16 i.overflow }
  { i with isProtected := i.isProtected || src.protectedClass }

/-- A secondary trigger of the open record (R140). -/
def secondary (src : Source) (block : Word32) (r : OpenRecord) (s : State) : State :=
  s.updRecord r.slot (addSecondary src (r.offset block))

/-- A trigger taken now, with the items it binds (R137, R141). -/
def State.triggerNow (s : State) (src : Source) : PendingTrigger where
  source := src
  block := s.cap.fill
  time := s.time
  pre := s.clp.working.preTrigger
  post := s.clp.working.postTrigger
  mask := s.clp.working.recordChannels

/-- A pending trigger, or one dropped and counted (R141). -/
def pend (t : PendingTrigger) (s : State) : State :=
  if s.cap.waiting.length < 4 then { s with cap := { s.cap with waiting := s.cap.waiting ++ [t] } }
  else { s with cap := { s.cap with dropped := bump16 s.cap.dropped } }

/-- Mark a source in the block being filled (R132). -/
def markSource (src : Source) (s : State) : State :=
  { s with cap := { s.cap with marks := s.cap.marks ||| (1#8 <<< src.code) } }

/-- Taking an admitted trigger by the capture state and its trigger block (R134); `again` marks a repeat EMERGENCY. -/
def takeAdmitted (src : Source) (again : Bool) (s : State) : State :=
  let t := s.triggerNow src
  match s.cap.state with
  | .idle => if again then s else openCapture t (min t.pre s.cap.ring.length) s
  | .closing => if again then s else pend t s
  | .allocating | .capturing =>
    match s.cap.record with
    | none => s
    | some r =>
      if r.covers s.cap.fill then secondary src s.cap.fill r s
      else if again then s else pend t s

/-- A trigger raised to the CAP (R132, R134): its mark, and what becomes of it when its source is admitted. -/
def trigger (src : Source) (again : Bool) (s : State) : State :=
  let s := markSource src s
  if s.clp.working.admits src then takeAdmitted src again s else s

/-! ## The capture writer's asks (R142) -/

/-- The next page of the record is ready: every block it is to hold has been sealed (R142). -/
def OpenRecord.pageReady (r : OpenRecord) (fill : Word32) : Bool :=
  decide (r.copied < r.span) && decide (min (r.copied + 4) r.span ≤ r.offset fill)

/-- A page write of the capture is in progress. -/
def pageWriting : Option PortOp → Bool
  | some (.page ..) => true
  | _ => false

/-- The writer asks for a page write when one is ready and none is waiting or in progress (R142). -/
def writerAsk (s : State) : State :=
  match s.cap.state, s.cap.record with
  | .capturing, some r =>
    if r.close.isNone && s.store.writer.isNone && !pageWriting s.store.port && r.pageReady s.cap.fill then
      { s with store := { s.store with writer := some .page } }
    else s
  | _, _ => s

/-- The CAP enters CLOSING with a close status: the slot goes CLOSING and the directory client asks for the closing
entry write (R145, R151, R157). -/
def enterClosing (c : CloseStatus) (r : OpenRecord) (s : State) : State :=
  let s := s.setEntry r.slot
    ⟨.closing, (s.entry r.slot).record.map (fun i => { i with close := some c })⟩
  { s with
    cap := { s.cap with state := .closing, record := some { r with close := some c } }
    store := { s.store with dirQueue := s.store.dirQueue ++ [⟨r.slot, .closing⟩] } }

/-! ## The store port arbiter (R153 to R155) -/

/-- A client has an operation waiting. -/
def State.waits (s : State) : Client → Bool
  | .writer => s.store.writer.isSome
  | .directory => !s.store.dirQueue.isEmpty
  | .config => s.clp.commit.any (fun c => c.ask)
  | .s0 => s.rdu.s0.ask
  | .s1 => s.rdu.s1.ask
  | .scrubber => s.store.check.any (fun k => k.ask)
  | .hostErase => s.store.hostErase.any (fun h => h.ask)

/-- The clients in the cyclic order that starts after a client (R154). -/
def Client.after : Client → List Client
  | .writer => [.directory, .config, .s0, .s1, .scrubber, .hostErase, .writer]
  | .directory => [.config, .s0, .s1, .scrubber, .hostErase, .writer, .directory]
  | .config => [.s0, .s1, .scrubber, .hostErase, .writer, .directory, .config]
  | .s0 => [.s1, .scrubber, .hostErase, .writer, .directory, .config, .s0]
  | .s1 => [.scrubber, .hostErase, .writer, .directory, .config, .s0, .s1]
  | .scrubber => [.hostErase, .writer, .directory, .config, .s0, .s1, .scrubber]
  | .hostErase => [.writer, .directory, .config, .s0, .s1, .scrubber, .hostErase]

/-- The client a grant chooses (R154, R155). -/
def State.chosenClient (s : State) : Option Client :=
  if s.clp.working.storeMode = .burst ∧ s.store.writer = some .page then some .writer
  else s.store.last.after.find? s.waits

/-- The operation begun for the capture writer (R142, R150, R156). A page is copied from the ring at the grant, of its
blocks those that the ring still holds (log 47); an erase marks the stored entry ERASING at its start. -/
def grantWriter (op : WriterOp) (r : OpenRecord) (s : State) : State :=
  let s := { s with store := { s.store with writer := none } }
  match op with
  | .erase =>
    let s := s.setStored r.slot .erasing
    { s with store := { s.store with port := some (.reclaimErase r.slot) } }
  | .opening =>
    match (s.entry r.slot).record with
    | none => s
    | some i => { s with store := { s.store with port := some (.opening r.slot i) } }
  | .page =>
    let hi := min (r.copied + 4) r.span
    let bs := (s.cap.ring.filter (fun b => decide (r.copied ≤ r.offset b.seq) && decide (r.offset b.seq < hi))).map
      (storedForm r.mask)
    { s with
      cap := { s.cap with record := some { r with copied := hi } }
      store := { s.store with port := some (.page r.slot (r.copied / 4) bs) } }

/-- The directory write of `w` with the change for which it was asked (R150, R160). -/
def dirContent (w : DirWrite) (i : RecordInfo) : RecordInfo :=
  match w.kind with
  | .unprotect => { i with isProtected := false }
  | .closing | .protect | .damaged => i

/-- The page read that a stream asks for: the page of the block after its next pointer (R169). -/
def Stream.page (d : Stream) : Nat := (d.next + 1).toNat / 4

/-- A stream's read begins. -/
def grantStream (n : StreamNo) (s : State) : State :=
  let d := s.rdu.get n
  let slot := (s.slotOf d.record).getD 0
  let s := s.setStream n { d with ask := false }
  { s with store := { s.store with port := some (.streamRead n slot d.page true) } }

/-- The operation granted to a client begins; the client becomes the last-granted one (R154, R155). -/
def grant (c : Client) (s : State) : State :=
  let s := { s with store := { s.store with last := c } }
  match c with
  | .writer =>
    match s.store.writer, s.cap.record with
    | some op, some r => grantWriter op r s
    | _, _ => { s with store := { s.store with writer := none } }
  | .directory =>
    match s.store.dirQueue with
    | [] => s
    | w :: rest =>
      let s := { s with store := { s.store with dirQueue := rest } }
      match (s.entry w.slot).record with
      | none => s
      | some i => { s with store := { s.store with port := some (.dir w (dirContent w i)) } }
  | .config =>
    match s.clp.commit with
    | none => s
    | some k =>
      let op := match k.todo with
        | [] => PortOp.configCheck
        | n :: _ => PortOp.configItem n
      { s with
        clp := { s.clp with commit := some { k with ask := false } }
        store := { s.store with port := some op } }
  | .s0 => grantStream .s0 s
  | .s1 => grantStream .s1 s
  | .scrubber =>
    match s.store.check with
    | none => s
    | some k =>
      { s with
        store := { s.store with check := some { k with ask := false }, port := some (.scrubRead k.slot k.page true) } }
  | .hostErase =>
    match s.store.hostErase with
    | none => s
    | some h =>
      let s := s.setStored h.slot .erasing
      { s with
        store := { s.store with hostErase := some { h with ask := false }, port := some (.hostErase h.slot) } }

/-- The arbiter on an idle port grants one of the waiting operations (R154). -/
def portGrant (s : State) : State :=
  match s.store.port with
  | some _ => s
  | none =>
    match s.chosenClient with
    | none => s
    | some c => grant c s

/-! ## The transmit arbiter (R181) -/

/-- The other stream. -/
def StreamNo.other : StreamNo → StreamNo
  | .s0 => .s1
  | .s1 => .s0

/-- Begin the STREAM_DATA frame a stream offers. -/
def txStream (n : StreamNo) (f : StreamFrame) (s : State) : State :=
  let s := s.setStream n { s.rdu.get n with buffer := none }
  { s with clp := { s.clp with tx := some (.stream f), lastStream := n } }

/-- On an idle line the arbiter begins a waiting frame: reply, oldest notice, report, stream data with the stream other
than the last one first (R181). -/
def txChoose (s : State) : State :=
  match s.clp.tx with
  | some _ => s
  | none =>
    match s.clp.replySlot with
    | some r => { s with clp := { s.clp with tx := some (.reply r), replySlot := none } }
    | none =>
      match s.clp.notices with
      | n :: rest => { s with clp := { s.clp with tx := some (.notice n), notices := rest } }
      | [] =>
        match s.clp.reportSlot with
        | some c => { s with clp := { s.clp with tx := some (.report c), reportSlot := none } }
        | none =>
          let a := StreamNo.other s.clp.lastStream
          match (s.rdu.get a).buffer, (s.rdu.get s.clp.lastStream).buffer with
          | some f, _ => txStream a f s
          | none, some f => txStream s.clp.lastStream f s
          | none, none => s

/-! ## Running a command -/

/-- After each command the idle store port and the idle TX line take what waits (R154, R181), once the first field
cycle has begun (log 32). -/
def settle (s : State) : State := if s.powered && s.begun then txChoose (portGrant s) else s

/-- Run a command's effect on a powered part; without power the part is stopped until the next power-on (log 9). -/
def act (f : State → State) (s : State) : Host.Outcome State Fault Refusal :=
  .next (if s.powered then settle (f s) else s)

/-! ## Claims of the emergency (R48, R58, R88 to R92) -/

/-- The base pressure of a channel (R48). -/
def Tpc.base (c : Tpc) : Nat := max c.claims.air c.claims.indep

/-- The target of a channel that is not OFF (R48). -/
def Tpc.targetOf (emergPressure : Nat) (c : Tpc) : Nat :=
  if c.claims.emergency then max c.base emergPressure
  else
    match c.ramp with
    | some v => min c.base (v / 100)
    | none => c.base

/-- A channel takes the emergency claim: when not OFF it ends its settle ramp and computes its target at once (R58). -/
def Tpc.takeEmergency (emergPressure : Nat) (c : Tpc) : Tpc :=
  let c := { c with claims := { c.claims with emergency := true } }
  if c.state = .off then c
  else
    let c := { c with ramp := none }
    { c with target := c.targetOf emergPressure }

/-- R34: the master enable cleared by the ES, both ramped requests at 0 at once. -/
def dropMaster (b : Ble) : Ble :=
  { b with master := false, trucks := b.trucks.map (fun k => { k with request := 0 }) }

/-- Emergency entry with its cause (R88). -/
def emergencyEnter (cause : EntryCause) (s : State) : State :=
  let pipe := s.chan 8
  let s := { s with
    es := { s.es with latch := true, cause := cause, entryTime := some s.time, held := 0 }
    tpc := s.tpc.map (Tpc.takeEmergency s.clp.working.emergPressure)
    ble := if s.clp.working.emergDynamic = .drop then dropMaster s.ble else s.ble }
  trigger .emergency false (raise (.emergencyOn cause pipe.value pipe.validity s.vrefCenti s.am.known) s)

/-- A cause that arises: an entry while the latch is clear, else a repeat trigger (R88, R89). -/
def emergencyCause (cause : EntryCause) (s : State) : State :=
  if s.es.latch then trigger .emergency true s else emergencyEnter cause s

/-- A duration carried in a 4-byte field stops at its greatest value (scope file, section 5.3). -/
def ms32 (n : Nat) : Nat := min 4294967295 n

/-- A share set with the emergency flag clear. -/
def ShareSet.cleared (o : ShareSet) : ShareSet := { o with emergency := false }

/-- Emergency exit (R92). The next SHARE has its emergency flag clear, so the set offered last loses it here (log 42). -/
def emergencyExit (m : ExitManner) (s : State) : State :=
  let cause := s.es.cause
  let ms := ms32 s.es.held
  let s := { s with
    es := { s.es with latch := false, cause := .none, entryTime := none, held := 0, charged := false,
                      pipeRate := false, pipeLow := false, consist := false }
    tpc := s.tpc.map (fun c => { c with claims := { c.claims with emergency := false } })
    ble := { s.ble with offered := s.ble.offered.map ShareSet.cleared } }
  raise (.emergencyOff cause ms m) s

end Sys2Proof.Machine
end

