-- ==== Sys2Proof/Machine/Requests.lean ====
section
/-! DEFINITION. Taking a request (R178, R179): the queue's head, the tests of R178, the reply, the held head. Each
request row names its own rule as `serve`. -/
namespace Sys2Proof.Machine

/-- What the owning block's rule answers: a reply at once, or a head held for a store operation (R179). -/
inductive Served where
  | reply (st : ReplyStatus) (payload : List Byte) (s : State)
  | hold (s : State)
  deriving DecidableEq, Repr

/-- A refusal carries nothing and changes nothing. -/
def refuse (st : ReplyStatus) (s : State) : Served := .reply st [] s

/-- OK without a payload. -/
def accept (s : State) : Served := .reply .ok [] s

/-- A request can be taken: the receiver has been enabled, the head is not held, the reply slot is empty, and the
request is the head of the queue or arrives on an empty queue (R179; log 23). -/
def State.takeable (s : State) (f : ReqFrame) : Bool :=
  s.begun && !s.clp.held && s.clp.replySlot.isNone && (s.clp.queue == [] || s.clp.queue.head? == some f)

/-- A request that arrives on an empty queue joins it. -/
def arrive (f : ReqFrame) (s : State) : State :=
  if s.clp.queue = [] then { s with clp := { s.clp with queue := [f] } } else s

/-- The reply is placed in the reply slot and the request leaves the queue (R179). -/
def answer (f : ReqFrame) (st : ReplyStatus) (payload : List Byte) (s : State) : State :=
  { s with clp := { s.clp with queue := s.clp.queue.tail, held := false, replySlot := some (replyTo f st payload) } }

/-- What becomes of a request by the tests of R178 and the owning block's rule. -/
def serveRequest (f : ReqFrame) (serve : List Byte → State → Served) (s : State) : State :=
  match precheck f with
  | some r => answer f r.1 r.2 s
  | none =>
    match serve f.payload s with
    | .reply st p t => answer f st p t
    | .hold t => { t with clp := { t.clp with held := true } }

/-- Taking a request of a row (R178, R179). A frame of another row, or one that cannot be taken now, is not taken. -/
def takeRequest (row : ReqRow) (f : ReqFrame) (serve : List Byte → State → Served) (s : State) : State :=
  if rowOf f = row ∧ s.takeable f = true then serveRequest f serve (arrive f s) else s

/-- The rule of a request that test 1 of R178 always refuses. -/
def serveNothing (_ : List Byte) (s : State) : Served := refuse .unknownKind s

/-- REQUEST_UNKNOWN_KIND. -/
def execRequestUnknownKind (kind tag : Byte) (payload : List Byte) (s : State) : Host.Outcome State Fault Refusal :=
  act (takeRequest .unknownKind ⟨kind, tag, payload⟩ serveNothing) s

end Sys2Proof.Machine
end

