-- ==== Sys2Proof/Machine/Emergency.lean ====
section
/-! DEFINITION. The Emergency Supervisor (chapter 5): the ES update, the consist cause, and the requests
EMERGENCY_APPLY, EMERGENCY_RESET, PENALTY_SET, PENALTY_CLEAR. -/
namespace Sys2Proof.Machine

/-- BRAKE_PIPE (channel 8). -/
def State.pipe (s : State) : Channel := s.chan 8

/-- BRAKE_PIPE is VALID and at or above a pressure. -/
def State.pipeAtLeast (s : State) (kpa : Nat) : Bool := (s.pipe.validity == .valid) && decide (kpa ≤ s.pipe.value)

/-- The pipe-rate test (R84). -/
def pipeRateTest (history : List (Nat × Validity)) (now : Channel) : Bool :=
  decide (history.length = 20) && history.all (fun h => h.2 == .valid) && now.validity == .valid &&
    history.any (fun h => decide (now.value + 6 ≤ h.1))

/-- The pipe-low test (R85). -/
def pipeLowTest (charged : Bool) (now : Channel) : Bool :=
  charged && now.validity == .valid && decide (now.value < 150)

/-- Step 1 of R83. -/
def chargedStep (s : State) : State :=
  { s with es := { s.es with charged := s.es.charged || s.pipeAtLeast 300 } }

/-- The new causes of an update with the latch set (R89): a repeat for each flag that has newly set. -/
def repeatCause (was now : Bool) (s : State) : State := if now && !was then trigger .emergency true s else s

/-- Steps 2 and 3 of R83: tests, flags, entry in the order of R88, or new causes (R89). -/
def causeStep (s : State) : State :=
  let rate := pipeRateTest s.es.history s.pipe
  let low := pipeLowTest s.es.charged s.pipe
  let wasRate := s.es.pipeRate
  let wasLow := s.es.pipeLow
  let s := { s with es := { s.es with pipeRate := rate, pipeLow := low } }
  if s.es.latch then repeatCause wasLow low (repeatCause wasRate rate s)
  else if rate then emergencyEnter .pipeRate s
  else if low then emergencyEnter .pipeLow s
  else s

/-- The exit test of a FOLLOWING trail (R93). -/
def State.trailExit (s : State) : Bool :=
  s.following && s.es.latch && (s.es.shareFlag == some false) && s.pipeAtLeast 400 && decide (60000 ≤ s.es.held)

/-- Step 4 of R83. -/
def exitStep (s : State) : State := if s.trailExit then emergencyExit .leadClear s else s

/-- Step 5 of R83: one entry more, at most 20. -/
def historyStep (s : State) : State :=
  let h := s.es.history ++ [(s.pipe.value, s.pipe.validity)]
  { s with es := { s.es with history := h.drop (h.length - 20) } }

/-- One ES update (R83). -/
def esUpdate (s : State) : State := historyStep (exitStep (causeStep (chargedStep s)))

/-! ## The consist cause (R86) -/

/-- The recorded flag of a roster entry. -/
def Es.seenFlag (e : Es) (ident : Nat) : Option Bool := (e.seen.find? (fun p => p.1 == ident)).map (fun p => p.2)

/-- The recorded flags with one entry's set. -/
def recordFlag (ident : Nat) (flag : Bool) (seen : List (Nat × Bool)) : List (Nat × Bool) :=
  seen.filter (fun p => p.1 != ident) ++ [(ident, flag)]

/-- The CONSIST flag of a lead is clear when no recorded flag is set (R86; log 21). -/
def Es.consistUpkeep (e : Es) : Es := { e with consist := e.consist && e.seen.any (fun p => p.2) }

/-- A STATUS of an ACTIVE entry handed to the ES (R86). The cause arises on the edge of the recorded flag alone, also at the first
STATUS of an entry that rejoins with its record kept (log 49). -/
def esStatus (ident : Nat) (flag : Bool) (s : State) : State :=
  let arises := flag && s.es.seenFlag ident != some true
  let seen := recordFlag ident flag s.es.seen
  let s := { s with es := Es.consistUpkeep { s.es with seen := seen, consist := s.es.consist || arises } }
  if arises then emergencyCause .consist s else s

/-- An accepted SHARE's flag handed to the ES of a trail (R86, R93). -/
def esShare (flag : Bool) (s : State) : State :=
  let arises := flag && !s.es.consist
  let s := { s with es := { s.es with shareFlag := some flag, consist := flag } }
  if arises then emergencyCause .consist s else s

/-- The ES drops the recorded flags of the entries that leave the roster (R86, R102, R119). -/
def esDrop (leaves : Nat → Bool) (s : State) : State :=
  { s with es := Es.consistUpkeep { s.es with seen := s.es.seen.filter (fun p => !leaves p.1) } }

/-! ## The requests -/

/-- EMERGENCY_APPLY (R87). -/
def serveEmergencyApply (_ : List Byte) (s : State) : Served := accept (emergencyCause .hostApply s)

/-- EMERGENCY_RESET (R91). -/
def serveEmergencyReset (_ : List Byte) (s : State) : Served :=
  if s.following then refuse .wrongRole s
  else if !s.es.latch then refuse .wrongState s
  else if s.es.held < 60000 then refuse .holdTime s
  else if !s.stationary then refuse .moving s
  else if !s.pipeAtLeast 400 then refuse .wrongState s
  else accept (emergencyExit .reset s)

/-- The penalty latched with its cause code (R94). -/
def penaltyLatch (code : Nat) (s : State) : State :=
  trigger .penalty false (raise (.penaltyOn code) { s with es := { s.es with penalty := true, penaltyCode := code } })

/-- PENALTY_SET (R94). -/
def servePenaltySet (p : List Byte) (s : State) : Served :=
  let code := rd8 p 0
  if code = 0 then refuse .badValue s
  else if s.es.penalty then accept s
  else accept (penaltyLatch code s)

/-- PENALTY_CLEAR (R95). -/
def servePenaltyClear (_ : List Byte) (s : State) : Served :=
  if !s.es.penalty then refuse .wrongState s
  else if !s.stationary then refuse .moving s
  else
    let code := s.es.penaltyCode
    accept (raise (.penaltyOff code) { s with es := { s.es with penalty := false, penaltyCode := 0 } })

/-- EMERGENCY_APPLY. -/
def execEmergencyApply (tag : Byte) (payload : List Byte) (s : State) : Host.Outcome State Fault Refusal :=
  act (takeRequest .emergencyApply ⟨0x0C#8, tag, payload⟩ serveEmergencyApply) s

/-- EMERGENCY_RESET. -/
def execEmergencyReset (tag : Byte) (payload : List Byte) (s : State) : Host.Outcome State Fault Refusal :=
  act (takeRequest .emergencyReset ⟨0x0D#8, tag, payload⟩ serveEmergencyReset) s

/-- PENALTY_SET. -/
def execPenaltySet (tag : Byte) (payload : List Byte) (s : State) : Host.Outcome State Fault Refusal :=
  act (takeRequest .penaltySet ⟨0x0B#8, tag, payload⟩ servePenaltySet) s

/-- PENALTY_CLEAR. -/
def execPenaltyClear (tag : Byte) (payload : List Byte) (s : State) : Host.Outcome State Fault Refusal :=
  act (takeRequest .penaltyClear ⟨0x0B#8, tag, payload⟩ servePenaltyClear) s

end Sys2Proof.Machine
end

