-- ==== Sys2Proof/Machine/Consist.lean ====
section
/-! DEFINITION. The consist line and the roster (chapters 6 and 7): the lead's cycle with its exchanges and roll-call
openings, the trail's answers, the roles, and the requests SET_ROLE, ROLL_CALL, ROSTER_READ, ROSTER_RELEASE. -/
namespace Sys2Proof.Machine

/-! ## The line (R98) -/

/-- DIR goes on and a frame is sent; its end may open a window. -/
def sendFrame (f : ConsistFrame) (opens : Option Window) (s : State) : State :=
  { s with csl := { s.csl with line := .sending f opens } }

/-- The line falls idle at this unit. -/
def lineIdle (s : State) : State := { s with csl := { s.csl with line := .idle } }

/-- An open window is abandoned and a frame being sent opens none (R102, R112). -/
def LineJob.abandonWindow : LineJob → LineJob
  | .idle => .idle
  | .sending f _ => .sending f none
  | .window _ => .idle

/-- The roster entry of an identity. -/
def State.rosterEntry (s : State) (ident : Nat) : Option Entry := s.csl.roster.find? (fun e => e.ident == ident)

/-- Change the roster entry of an identity. -/
def updEntry (ident : Nat) (f : Entry → Entry) (s : State) : State :=
  { s with csl := { s.csl with roster := s.csl.roster.map (fun e => if e.ident = ident then f e else e) } }

/-! ## What the lead sends (R104, R105, R121) -/

/-- The SHARE for an entry from the set offered last (R105, R40), which loses its emergency flag at an exit (R92; log 42). -/
def State.shareFrame (s : State) (ident : Nat) (o : ShareSet) : ConsistFrame :=
  let dynamic := ((o.shares.find? (fun p => p.1 == ident)).map (fun p => p.2)).getD 0
  ⟨s.ownIdentity, ident, .share s.csl.cycle dynamic o.fill o.indep o.emergency o.bail o.penalty o.master⟩

/-- The next exchange still to be made: an entry no longer held is passed over, and with no set offered none is made
(R105). -/
def nextExchange (roster : List Entry) : List Nat → Option (Nat × List Nat)
  | [] => none
  | i :: rest => if roster.any (fun e => e.ident == i) then some (i, rest) else nextExchange roster rest

/-- The opening of a running roll call (R121): ENROL for a pending enrolment, else ROLL for the top range. -/
def openingFrame (r : RollCall) (s : State) : State :=
  match r.pendingEnrol with
  | some p =>
    sendFrame ⟨s.ownIdentity, p.ident, .enrol⟩ (some (.enrol p.ident))
      { s with csl := { s.csl with openings := s.csl.openings - 1 } }
  | none =>
    match r.stack with
    | [] => s
    | (l, h) :: rest =>
      sendFrame ⟨s.ownIdentity, Config.allUnits, .roll l h⟩ (some (.roll l h))
        { s with csl := { s.csl with openings := s.csl.openings - 1, roll := some { r with stack := rest } } }

/-- With the exchanges of the cycle made, an opening follows while one is left. -/
def nextOpening (s : State) : State :=
  match s.csl.roll with
  | none => s
  | some r => if 0 < s.csl.openings then openingFrame r s else s

/-- What a lead sends next on its idle line: the next exchange, then the next opening (R104). A RELEASE owed goes first
(R119), and a lead in CONFLICT sends nothing (R113). -/
def lineNext (s : State) : State :=
  if s.leading && s.csl.line == .idle && s.csl.releases.isEmpty then
    match s.ble.offered, nextExchange s.csl.roster s.csl.todo with
    | some o, some (i, rest) =>
      sendFrame (s.shareFrame i o) (some (.exchange i s.csl.cycle)) { s with csl := { s.csl with todo := rest } }
    | _, _ => nextOpening { s with csl := { s.csl with todo := [] } }
  else s

/-! ## The consist cycle (R104, R117) -/

/-- The age of a stored status at a cycle start (R117). -/
def Entry.aged (e : Entry) : Entry := { e with last := e.last.map (fun l => { l with age := bump16 l.age }) }

/-- The exchanges that a cycle calls for (R105). -/
def exchangesOf (cycle : Word16) (roster : List Entry) : List Nat :=
  (roster.filter (fun e => e.state == .active || cycle.toNat % 10 == 0)).map (fun e => e.ident)

/-- A consist cycle is due: every 8th tick on a lead. -/
def State.cycleDue (s : State) : Bool := s.csl.role == .lead && decide (8 ≤ s.csl.cycleTicks)

/-- The cycle start (R104): the number rises but for the first cycle, the ages rise, the exchanges begin. -/
def consistCycleStart (s : State) : State :=
  if s.cycleDue then
    let n := if s.csl.cycleBegun then s.csl.cycle + 1 else s.csl.cycle
    let roster := s.csl.roster.map Entry.aged
    lineNext { s with csl := { s.csl with
      cycleTicks := s.csl.cycleTicks - 8
      cycle := n
      cycleBegun := true
      roster := roster
      todo := if s.csl.conflict || s.ble.offered.isNone then [] else exchangesOf n roster
      openings := if s.csl.roll.isSome && !s.csl.conflict then 4 else 0 } }
  else s

/-! ## Entry states (R107, R108) -/

/-- The STATUS of a good answer as an entry's last status (R117). -/
def storedStatus (cap ach b1 b2 : Nat) (fl : StatusFlags) (blend : Byte) : LastStatus := ⟨cap, ach, b1, b2, fl, blend, 0⟩

/-- The capacity of an entry's last status, 0 if it has none. -/
def Entry.lastCapacity (e : Entry) : Nat := (e.last.map (fun l => l.capacity)).getD 0

/-- R107: the miss count of an ACTIVE entry has reached 3. -/
def Entry.lostDue (e : Entry) : Bool := e.state == .active && decide (3 ≤ e.miss)

/-- An entry becomes LOST when due, with the notice and trigger UNIT_LOST (R107). -/
def entryLost (ident : Nat) (s : State) : State :=
  match s.rosterEntry ident with
  | none => s
  | some e =>
    if e.lostDue then
      trigger .unitLost false
        (raise (.unitLost ident e.lastCapacity s.csl.cycle)
          (updEntry ident (fun e => { e with state := .lost, good := 0 }) s))
    else s

/-- R108: the good-answer count of a LOST entry has reached 3. -/
def Entry.joinedDue (e : Entry) : Bool := e.state == .lost && decide (3 ≤ e.good)

/-- An entry becomes ACTIVE when due: its STATUS is handed to the ES, UNIT_JOINED is raised (R108). The ES compares it with the flag
it recorded before the entry was LOST (log 49). -/
def entryJoined (ident : Nat) (s : State) : State :=
  match s.rosterEntry ident with
  | none => s
  | some e =>
    if e.joinedDue then
      let flag := (e.last.map (fun l => l.flags.emergency)).getD false
      raise (.unitJoined ident e.lastCapacity)
        (esStatus ident flag (updEntry ident (fun e => { e with state := .active, good := 0 }) s))
    else s

/-- A good answer stored in an entry, with its counts (R107, R108). -/
def Entry.goodAnswer (l : LastStatus) (e : Entry) : Entry :=
  match e.state with
  | .active => { e with miss := 0, last := some l }
  | .lost => { e with miss := 0, good := e.good + 1, last := some l }

/-- A miss in an entry's counts (R107, R108). -/
def Entry.missed (e : Entry) : Entry :=
  match e.state with
  | .active => { e with miss := min 255 (e.miss + 1) }
  | .lost => { e with miss := min 255 (e.miss + 1), good := 0 }

/-- The decision of a good answer. -/
def exchangeGood (ident : Nat) (l : LastStatus) (s : State) : State :=
  match s.rosterEntry ident with
  | none => s
  | some e =>
    let t := updEntry ident (Entry.goodAnswer l) s
    if e.state = .active then esStatus ident l.flags.emergency t else entryJoined ident t

/-- The decision of a miss. -/
def exchangeMiss (ident : Nat) (s : State) : State := entryLost ident (updEntry ident Entry.missed s)

/-! ## The roll call (R120 to R125) -/

/-- The roll call ends with its notice (R125). -/
def endRollCall (st : RollStatus) (s : State) : State :=
  match s.csl.roll with
  | none => s
  | some r =>
    raise (.rollCallDone st r.found r.failed) { s with csl := { s.csl with roll := none, openings := 0 } }

/-- A decision that leaves the stack empty with no enrolment pending ends the roll call COMPLETE (R125). -/
def rollCheck (s : State) : State :=
  match s.csl.roll with
  | none => s
  | some r => if r.stack.isEmpty && r.pendingEnrol.isNone then endRollCall .complete s else s

/-- The parts of a range either side of an identity, the lower on top (R124). -/
def pushParts (low high ident : Nat) (stack : List (Nat × Nat)) : List (Nat × Nat) :=
  let up := if ident < high then (ident + 1, high) :: stack else stack
  if low < ident then (low, ident - 1) :: up else up

/-- The halves of a range, the lower on top (R122). -/
def splitRange (low high : Nat) (stack : List (Nat × Nat)) : List (Nat × Nat) :=
  let m := low + (high - low) / 2
  (low, m) :: (m + 1, high) :: stack

def setRoll (r : RollCall) (s : State) : State := { s with csl := { s.csl with roll := some r } }

/-- R124: the third failed attempt of a pending enrolment. -/
def RollCall.excludeDue (r : RollCall) : Bool := r.pendingEnrol.any (fun p => decide (3 ≤ p.attempts))

/-- The pending identity excluded from its range (R124). -/
def RollCall.exclude (r : RollCall) : RollCall :=
  match r.pendingEnrol with
  | none => r
  | some p =>
    if 3 ≤ p.attempts then
      { r with stack := pushParts p.low p.high p.ident r.stack, pendingEnrol := none, failed := r.failed + 1 }
    else r

/-- Exclusion when due, and the end of the roll call where it leaves nothing to ask. -/
def enrolExclude (s : State) : State :=
  match s.csl.roll with
  | none => s
  | some r => if r.excludeDue then rollCheck (setRoll r.exclude s) else s

/-- A failed attempt of a pending enrolment (R123). -/
def RollCall.failedAttempt (r : RollCall) : RollCall :=
  { r with pendingEnrol := r.pendingEnrol.map (fun p => { p with attempts := p.attempts + 1 }) }

/-- An entry newly enrolled (R116). -/
def newEntry (ident seq : Nat) : Entry := ⟨ident, .active, 0, 0, seq, none⟩

/-- The roster after a successful enrolment (R123). The enrolment sequence counter has no bound here and is sent modulo 2^32
(log 25). An entry already held keeps the flag that the ES recorded for it (log 49). -/
def enrolEntry (ident : Nat) (s : State) : State :=
  match s.rosterEntry ident with
  | none =>
    { s with csl := { s.csl with
      enrolSeq := s.csl.enrolSeq + 1
      roster := s.csl.roster ++ [newEntry ident (s.csl.enrolSeq + 1)] } }
  | some e =>
    let t := updEntry ident (fun e => { e with state := .active, miss := 0, good := 0, last := none }) s
    if e.state = .lost then raise (.unitJoined ident 0) t else t

/-- A successful attempt (R123). The counts of units found and of failed enrolments have no bound here and are sent modulo
2^16 (log 25). -/
def enrolSuccess (r : RollCall) (s : State) : State :=
  match r.pendingEnrol with
  | none => s
  | some p =>
    setRoll { r with stack := (p.low, p.high) :: r.stack, pendingEnrol := none, found := r.found + 1 }
      (enrolEntry p.ident s)

/-- What a ROLL window took (R122). -/
inductive RollOutcome where
  | empty
  | clean (ident : Nat)
  | garbled
  deriving DecidableEq, Repr

/-- The classification of a ROLL window (R122). -/
def rollOutcome (own low high : Nat) (taken : List LineRx) : RollOutcome :=
  match taken with
  | [] => .empty
  | [rx] =>
    match cleanFrame rx with
    | some ⟨src, dst, .rollAnswer i⟩ =>
      if rx.inTime = true ∧ dst = own ∧ src = i ∧ low ≤ i ∧ i ≤ high then .clean i else .garbled
    | _ => .garbled
  | _ :: _ :: _ => .garbled

/-- The lead's action on a ROLL window's outcome (table of R122), before the test of R125. -/
def rollAct (low high : Nat) (o : RollOutcome) (r : RollCall) (s : State) : State :=
  match o with
  | .empty => s
  | .garbled =>
    if low < high then setRoll { r with stack := splitRange low high r.stack } s else raise (.duplicateIdentity low) s
  | .clean i =>
    if i = s.ownIdentity then setRoll { r with stack := pushParts low high i r.stack } s
    else if (s.rosterEntry i).isNone && decide (Config.rosterMax ≤ s.csl.roster.length) then endRollCall .rosterFull s
    else setRoll { r with pendingEnrol := some ⟨i, low, high, 0⟩ } s

/-! ## Conflict (R112) -/

/-- A clean frame of a lead-owned kind from a foreign source. -/
def State.foreignLead (s : State) (rx : LineRx) : Option ConsistFrame :=
  (cleanFrame rx).filter (fun f => f.body.leadOwned && f.source != s.ownIdentity)

/-- An open window decided as a miss (R106, R112, R123; log 38). -/
def missWindow (w : Window) (s : State) : State :=
  match w with
  | .exchange i _ => exchangeMiss i s
  | .roll _ _ => s
  | .enrol _ =>
    match s.csl.roll with
    | none => s
    | some r => setRoll r.failedAttempt.exclude s

/-- The open window of the lead is decided as a miss. -/
def missOpen (s : State) : State :=
  match s.csl.line with
  | .window w => missWindow w (lineIdle s)
  | .idle => s
  | .sending _ _ => s

/-- Entry to CONFLICT by a foreign frame (R112); the shares are withdrawn (R40). -/
def conflictEntry (f : ConsistFrame) (s : State) : State :=
  let s := { s with
    csl := { s.csl with conflict := true, todo := [], openings := 0 }
    ble := { s.ble with offered := none } }
  let s := endRollCall .complete (missOpen s)
  raise (.leadConflict f.source f.body.kind s.csl.cycle) { s with csl := { s.csl with line := s.csl.line.abandonWindow } }

/-- The first foreign lead's frame that was taken whole while a window was open; one still arriving at its close has not been
taken (R106, R112). -/
def State.foreignTaken (s : State) (taken : List LineRx) : Option ConsistFrame :=
  (taken.filter (fun rx => rx.inTime)).findSome? s.foreignLead

/-- A window closes on what it took: a foreign lead's frame taken brings the conflict, else `act` decides and the lead goes
on. -/
def closeWindow (taken : List LineRx) (act : State → State) (s : State) : State :=
  match s.foreignTaken taken with
  | some f => conflictEntry f s
  | none => lineNext (act (lineIdle s))

/-! ## The windows' decisions -/

/-- The STATUS of a good answer in an exchange's window (R106). -/
def goodStatus (own ident : Nat) (cycle : Word16) (taken : List LineRx) : Option LastStatus :=
  match taken with
  | [rx] =>
    match cleanFrame rx with
    | some ⟨src, dst, .status c cap ach b1 b2 fl bl⟩ =>
      if rx.inTime = true ∧ src = ident ∧ dst = own ∧ c = cycle then some (storedStatus cap ach b1 b2 fl bl) else none
    | _ => none
  | _ => none

/-- The decision of an exchange (R106). -/
def exchangeDecision (taken : List LineRx) (s : State) : State :=
  match s.csl.line with
  | .window (.exchange i c) =>
    closeWindow taken
      (fun t => match goodStatus t.ownIdentity i c taken with
        | some l => exchangeGood i l t
        | none => exchangeMiss i t) s
  | _ => s

/-- The decision of a ROLL opening (R122, R125). -/
def rollDecision (taken : List LineRx) (s : State) : State :=
  match s.csl.line, s.csl.roll with
  | .window (.roll l h), some r =>
    closeWindow taken (fun t => rollCheck (rollAct l h (rollOutcome t.ownIdentity l h taken) r t)) s
  | _, _ => s

/-- The attempt of an ENROL window is successful (R123): the clean ENROL_ACK is all that the window took, and other line activity
beside it fails the attempt (log 48). -/
def enrolAcked (own ident : Nat) (taken : List LineRx) : Bool :=
  match taken with
  | [rx] =>
    match cleanFrame rx with
    | some ⟨src, dst, .enrolAck⟩ => rx.inTime && src == ident && dst == own
    | _ => false
  | _ => false

/-- The decision of an ENROL opening (R123, R124). -/
def enrolDecision (taken : List LineRx) (s : State) : State :=
  match s.csl.line, s.csl.roll with
  | .window (.enrol i), some r =>
    closeWindow taken
      (fun t => if enrolAcked t.ownIdentity i taken then rollCheck (enrolSuccess r t)
        else enrolExclude (setRoll r.failedAttempt t)) s
  | _, _ => s

/-- The decision of the window that is open, whichever it is of. -/
def windowDecision (taken : List LineRx) (s : State) : State :=
  match s.csl.line with
  | .window (.exchange _ _) => exchangeDecision taken s
  | .window (.roll _ _) => rollDecision taken s
  | .window (.enrol _) => enrolDecision taken s
  | .idle => s
  | .sending _ _ => s

/-- A lead takes a foreign lead's frame (R112); its receiver is off while DIR is on (R98). -/
def leadConflict (rx : LineRx) (s : State) : State :=
  if s.leading && !s.dir then
    match s.foreignLead rx with
    | some f => conflictEntry f s
    | none => s
  else s

/-! ## Sending (R98, R102, R119) -/

/-- A RELEASE owed begins on the idle line, not by a lead in CONFLICT (R102, R113, R119). -/
def releaseTransmit (s : State) : State :=
  if s.csl.line == .idle && !(s.csl.role == .lead && s.csl.conflict) then
    match s.csl.releases with
    | [] => s
    | o :: rest => sendFrame ⟨o.source, o.dest, .release⟩ none { s with csl := { s.csl with releases := rest } }
  else s

/-- The last stop bit of a frame has been sent: DIR off, and a window opens where the frame calls for one (R98, R106,
R121). -/
def consistFrameSent (s : State) : State :=
  match s.csl.line with
  | .sending _ (some w) => { s with csl := { s.csl with line := .window w } }
  | .sending _ none => lineNext (lineIdle s)
  | .idle => s
  | .window _ => s

/-! ## The trail (R109 to R111, R126 to R128) -/

/-- A frame that a trail's receiver takes clean. -/
def State.trailTakes (s : State) (rx : LineRx) : Option ConsistFrame :=
  if s.csl.role = .trail ∧ s.dir = false then cleanFrame rx else none

/-- The STATUS answer (R110). -/
def State.statusFrame (s : State) : ConsistFrame :=
  let h := s.ble.handover
  ⟨s.ownIdentity, s.csl.leadId, .status s.csl.shareCycle h.capacity h.achieved (s.chan 6).value (s.chan 7).value
    s.statusFlags (BitVec.ofNat 8 h.blend.code)⟩

/-- LEAD_RESUMED when a SHARE is accepted in LOCAL (R111). -/
def resumed (cycle : Word16) (s : State) : State :=
  if s.csl.follow = some .inLocal then raise (.leadResumed s.csl.leadId cycle) s else s

/-- An accepted SHARE (R109): FOLLOWING, silence timer, follow inputs, emergency flag, answer. -/
def acceptShare (cycle : Word16) (i : FollowInputs) (emergency : Bool) (s : State) : State :=
  let s := resumed cycle s
  let s := { s with
    csl := { s.csl with follow := some .following, silence := some 0, shareCycle := cycle }
    ble := { s.ble with follow := some i } }
  let s := esShare emergency s
  sendFrame s.statusFrame none s

/-- A received SHARE (R109). -/
def shareAccept (rx : LineRx) (s : State) : State :=
  match s.trailTakes rx with
  | some ⟨src, dst, .share c d f i e b _ m⟩ =>
    if s.csl.enrolled = true ∧ src = s.csl.leadId ∧ dst = s.ownIdentity then acceptShare c ⟨d, f, i, b, m⟩ e s else s
  | _ => s

/-- R111: the silence timer has reached 200 ms at a tick. The acceptance fell between two ticks, so the tick after it
counts less than 5 ms (log 4). -/
def State.silenceDue (s : State) : Bool :=
  s.following && s.csl.silence.any (fun n => decide (200 < n))

/-- FOLLOWING to LOCAL (R111). -/
def leadSilent (s : State) : State :=
  if s.silenceDue then
    raise (.leadSilent s.csl.leadId s.csl.shareCycle)
      { s with csl := { s.csl with follow := some .inLocal, silence := none } }
  else s

/-- A received ROLL (R126). -/
def rollReceive (rx : LineRx) (s : State) : State :=
  match s.trailTakes rx with
  | some ⟨src, _, .roll l h⟩ =>
    if s.csl.enrolled = false ∧ l ≤ s.ownIdentity ∧ s.ownIdentity ≤ h then
      sendFrame ⟨s.ownIdentity, src, .rollAnswer s.ownIdentity⟩ none s
    else s
  | _ => s

/-- A received ENROL (R127). -/
def enrolReceive (rx : LineRx) (s : State) : State :=
  match s.trailTakes rx with
  | some ⟨src, dst, .enrol⟩ =>
    if dst = s.ownIdentity then
      let ack : ConsistFrame := ⟨s.ownIdentity, src, .enrolAck⟩
      if s.csl.enrolled = false then
        sendFrame ack none
          { s with csl := { s.csl with enrolled := true, leadId := src, follow := some .waiting, silence := none } }
      else if s.csl.leadId = src then sendFrame ack none s
      else s
    else s
  | _ => s

/-- A trail's enrolment is gone (R103, R128): flag, lead, silence timer, follow inputs, the last SHARE's flag. -/
def unenrol (follow : Option Follow) (s : State) : State :=
  { s with
    csl := { s.csl with enrolled := false, leadId := 0, follow := follow, silence := none }
    ble := { s.ble with follow := none }
    es := { s.es with shareFlag := none } }

/-- A received RELEASE (R128). -/
def releaseReceive (rx : LineRx) (s : State) : State :=
  match s.trailTakes rx with
  | some ⟨src, dst, .release⟩ =>
    if s.csl.enrolled = true ∧ src = s.csl.leadId ∧ (dst = s.ownIdentity ∨ dst = Config.allUnits) then
      unenrol (some .waiting) s
    else s
  | _ => s

/-! ## Roles (R101 to R103, R129) -/

/-- The test of R101. -/
def State.mayChange (s : State) : Bool := s.ble.blend == .released || s.ble.blend == .failsafe || s.stationary

/-- The RELEASE frames owed after leaving the lead role: those that earlier leavings still owe, then one to all units where
the lead is not in CONFLICT (R102). Those of ROSTER_RELEASE fall away, since after the role only R102's are sent (R98;
log 22). -/
def owedOnLeaving (own : Nat) (conflict : Bool) (owed : List OwedRelease) : List OwedRelease :=
  owed.filter (fun o => o.leaving) ++ if conflict then [] else [⟨own, Config.allUnits, true⟩]

/-- Steps 1 to 4 of R102. -/
def leaveLead (s : State) : State :=
  let s := endRollCall .complete s
  let s := { s with
    csl := { s.csl with
      line := s.csl.line.abandonWindow
      releases := owedOnLeaving s.ownIdentity s.csl.conflict s.csl.releases
      roster := []
      conflict := false
      cycleTicks := 0
      todo := []
      openings := 0 }
    ble := { s.ble with offered := none } }
  esDrop (fun _ => true) s

/-- What leaving the role held does (R102, R103). -/
def leaveRole (s : State) : State :=
  match s.csl.role with
  | .lead => leaveLead s
  | .trail => unenrol none s
  | .offline => s

/-- Entry to LEAD from another role (R103, R129): the first cycle starts at the next tick. -/
def enterLead (s : State) : State :=
  { s with
    csl := { s.csl with
      role := .lead, conflict := false, cycle := 0, cycleTicks := 7, cycleBegun := false, roster := [], enrolSeq := 0,
      roll := none, openings := 0, todo := [], enrolled := false, leadId := 0 }
    es := Es.consistUpkeep s.es }

/-- Entry to TRAIL from another role (R103). -/
def enterTrail (s : State) : State :=
  { s with csl := { s.csl with
    role := .trail, enrolled := false, leadId := 0, follow := some .waiting, silence := none } }

/-- The effect of an accepted SET_ROLE (R102, R103). -/
def setRole (r : Role) (s : State) : State :=
  match r with
  | .offline => if s.csl.role = .offline then s else { leaveRole s with csl := { (leaveRole s).csl with role := .offline } }
  | .lead =>
    if s.csl.role = .lead then { s with csl := { s.csl with conflict := false } } else enterLead (leaveRole s)
  | .trail => if s.csl.role = .trail then s else enterTrail (leaveRole s)

/-- SET_ROLE (R101). -/
def serveSetRole (r : Role) (_ : List Byte) (s : State) : Served :=
  if s.mayChange then accept (setRole r s) else refuse .wrongState s

/-- ROLL_CALL (R120). -/
def serveRollCall (_ : List Byte) (s : State) : Served :=
  if s.csl.role ≠ .lead then refuse .wrongRole s
  else if s.csl.conflict then refuse .wrongState s
  else if s.csl.roll.isSome then refuse .busy s
  else .reply .accepted [] (setRoll ⟨[(1, Config.lastIdentity)], none, 0, 0⟩ s)

/-! ## ROSTER_READ and ROSTER_RELEASE (R118, R119, section 12.2) -/

/-- The 24 bytes of an entry. -/
def Entry.bytes (e : Entry) : List Byte :=
  u32 e.ident ++ u8 e.state.code ++ u8 e.miss ++ u8 e.good ++ u32 e.seq ++
    match e.last with
    | none => flagByte false ++ List.replicate 12 0
    | some l =>
      flagByte true ++ u16 l.capacity ++ u16 l.achieved ++ u16 l.bc1 ++ u16 l.bc2 ++ u8 l.flags.byte ++ [l.blend] ++
        u16 l.age

/-- The roll-call fields of the lead's reply, 0 where no roll call runs or no enrolment is pending. -/
def rollBytes (r : Option RollCall) : List Byte :=
  match r with
  | none => flagByte false ++ List.replicate 11 0
  | some r =>
    let p := match r.pendingEnrol with
      | none => flagByte false ++ List.replicate 5 0
      | some p => flagByte true ++ u32 p.ident ++ u8 p.attempts
    flagByte true ++ u8 r.stack.length ++ p ++ u16 r.found ++ u16 r.failed

/-- The payload of ROSTER_READ after the status byte. -/
def State.rosterContent (s : State) : List Byte :=
  u8 s.csl.role.code ++
    match s.csl.role with
    | .offline => []
    | .trail => flagByte s.csl.enrolled ++ u32 s.csl.leadId ++ u8 ((s.csl.follow.map Follow.code).getD 0)
    | .lead =>
      flagByte s.csl.conflict ++ wordBytes s.csl.cycle ++ u32 s.csl.enrolSeq ++ rollBytes s.csl.roll ++
        u8 s.csl.roster.length ++ s.csl.roster.flatMap Entry.bytes

/-- ROSTER_READ (R118). -/
def serveRosterRead (_ : List Byte) (s : State) : Served := .reply .ok s.rosterContent s

/-- The entries that a ROSTER_RELEASE names. -/
def released (ident : Nat) (i : Nat) : Bool := ident == Config.allUnits || i == ident

/-- ROSTER_RELEASE (R119). -/
def serveRosterRelease (p : List Byte) (s : State) : Served :=
  let ident := rd32 p 0
  if s.csl.role ≠ .lead then refuse .wrongRole s
  else if s.csl.conflict then refuse .wrongState s
  else if s.csl.roll.isSome then refuse .busy s
  else if !s.mayChange then refuse .wrongState s
  else if ident ≠ Config.allUnits ∧ (s.rosterEntry ident).isNone = true then refuse .badValue s
  else
    accept (esDrop (released ident)
      { s with csl := { s.csl with
        roster := s.csl.roster.filter (fun e => !released ident e.ident)
        releases := s.csl.releases ++ [⟨s.ownIdentity, ident, false⟩] } })

/-! ## The rows -/

/-- CONSIST_CYCLE_START. -/
def execConsistCycleStart (s : State) : Host.Outcome State Fault Refusal := act consistCycleStart s

/-- EXCHANGE_DECISION. -/
def execExchangeDecision (taken : List LineRx) (s : State) : Host.Outcome State Fault Refusal :=
  act (exchangeDecision taken) s

/-- Whether an entry goes from one state to another. -/
def entryGoes (ident : Nat) (x y : EntryState) (s t : State) : Bool :=
  (s.rosterEntry ident).any (fun e => e.state == x) && (t.rosterEntry ident).any (fun e => e.state == y)

/-- A window row: with what the window took, the decision at which the event falls; without, its transition where its
condition stands reached (log 1). -/
def windowEvent (occurs : State → State → Bool) (decide own : State → State) (here : Bool) (s : State) : State :=
  if here then (if occurs s (decide s) then decide s else s) else own s

/-- UNIT_LOST. -/
def execUnitLost (ident : Nat) (taken : Option (List LineRx)) (s : State) : Host.Outcome State Fault Refusal :=
  act (windowEvent (entryGoes ident .active .lost) (windowDecision (taken.getD [])) (entryLost ident) taken.isSome) s

/-- UNIT_JOINED, at the decision of an exchange (R108) or of an ENROL (R123). -/
def execUnitJoined (ident : Nat) (taken : Option (List LineRx)) (s : State) : Host.Outcome State Fault Refusal :=
  act (windowEvent (entryGoes ident .lost .active) (windowDecision (taken.getD [])) (entryJoined ident) taken.isSome) s

/-- ROLL_DECISION. -/
def execRollDecision (taken : List LineRx) (s : State) : Host.Outcome State Fault Refusal := act (rollDecision taken) s

/-- ENROL_DECISION. -/
def execEnrolDecision (taken : List LineRx) (s : State) : Host.Outcome State Fault Refusal :=
  act (enrolDecision taken) s

/-- The pending enrolment of an open ENROL window was excluded at the third failed attempt: the failed count has risen,
or the roll call has ended, which a successful attempt never brings (R123). -/
def enrolExcluded (s t : State) : Bool :=
  match s.csl.line, s.csl.roll with
  | .window (.enrol _), some r =>
    r.pendingEnrol.any (fun p => decide (2 ≤ p.attempts)) && t.csl.roll.all (fun q => q.failed == r.failed + 1)
  | _, _ => false

/-- ENROL_EXCLUDE. -/
def execEnrolExclude (taken : Option (List LineRx)) (s : State) : Host.Outcome State Fault Refusal :=
  act (windowEvent enrolExcluded (enrolDecision (taken.getD [])) enrolExclude taken.isSome) s

/-- RELEASE_TRANSMIT. -/
def execReleaseTransmit (s : State) : Host.Outcome State Fault Refusal := act releaseTransmit s

/-- CONSIST_FRAME_SENT. -/
def execConsistFrameSent (s : State) : Host.Outcome State Fault Refusal := act consistFrameSent s

/-- LEAD_CONFLICT. -/
def execLeadConflict (rx : LineRx) (s : State) : Host.Outcome State Fault Refusal := act (leadConflict rx) s

/-- SHARE_ACCEPT. -/
def execShareAccept (rx : LineRx) (s : State) : Host.Outcome State Fault Refusal := act (shareAccept rx) s

/-- LEAD_SILENT. -/
def execLeadSilent (s : State) : Host.Outcome State Fault Refusal := act leadSilent s

/-- ROLL_RECEIVE. -/
def execRollReceive (rx : LineRx) (s : State) : Host.Outcome State Fault Refusal := act (rollReceive rx) s

/-- ENROL_RECEIVE. -/
def execEnrolReceive (rx : LineRx) (s : State) : Host.Outcome State Fault Refusal := act (enrolReceive rx) s

/-- RELEASE_RECEIVE. -/
def execReleaseReceive (rx : LineRx) (s : State) : Host.Outcome State Fault Refusal := act (releaseReceive rx) s

/-- SET_ROLE OFFLINE. -/
def execSetRoleOffline (tag : Byte) (payload : List Byte) (s : State) : Host.Outcome State Fault Refusal :=
  act (takeRequest .setRoleOffline ⟨0x06#8, tag, payload⟩ (serveSetRole .offline)) s

/-- SET_ROLE LEAD. -/
def execSetRoleLead (tag : Byte) (payload : List Byte) (s : State) : Host.Outcome State Fault Refusal :=
  act (takeRequest .setRoleLead ⟨0x06#8, tag, payload⟩ (serveSetRole .lead)) s

/-- SET_ROLE TRAIL. -/
def execSetRoleTrail (tag : Byte) (payload : List Byte) (s : State) : Host.Outcome State Fault Refusal :=
  act (takeRequest .setRoleTrail ⟨0x06#8, tag, payload⟩ (serveSetRole .trail)) s

/-- ROLL_CALL. -/
def execRollCall (tag : Byte) (payload : List Byte) (s : State) : Host.Outcome State Fault Refusal :=
  act (takeRequest .rollCall ⟨0x07#8, tag, payload⟩ serveRollCall) s

/-- ROSTER_READ. -/
def execRosterRead (tag : Byte) (payload : List Byte) (s : State) : Host.Outcome State Fault Refusal :=
  act (takeRequest .rosterRead ⟨0x08#8, tag, payload⟩ serveRosterRead) s

/-- ROSTER_RELEASE. -/
def execRosterRelease (tag : Byte) (payload : List Byte) (s : State) : Host.Outcome State Fault Refusal :=
  act (takeRequest .rosterRelease ⟨0x09#8, tag, payload⟩ serveRosterRelease) s

end Sys2Proof.Machine
end

