-- ==== Sys2Proof/Machine/Adhesion.lean ====
section
/-! DEFINITION. The Adhesion Monitor (chapter 4): the AM update of R61 in its seven steps, and FAILSAFE. V_ref is in
0.0001 km/h, speeds in 0.01 km/h, ceilings in 0.01 kN (log 35). -/
namespace Sys2Proof.Machine

def State.setAxle (a : Axle) (r : AxleRec) (s : State) : State :=
  { s with am := { s.am with axles := s.am.axles.set a r } }

def State.setSlide (t : Truck) (k : TruckSlide) (s : State) : State :=
  { s with am := { s.am with trucks := s.am.trucks.set t k } }

/-- The speed channel of an axle. -/
def State.speed (s : State) (a : Axle) : Channel := s.chan a.channel

/-! ## Step 1: braking (R62) -/

/-- The braking test. -/
def State.braking (s : State) : Bool :=
  decide (30 < s.tpc.t1.target) || decide (30 < s.tpc.t2.target) ||
    decide (1000 < s.ble.trucks.t1.request) || decide (1000 < s.ble.trucks.t2.request)

/-! ## Step 2: the reference speed (R63 to R65) -/

/-- The speed of a candidate axle in 0.0001 km/h (R63). -/
def State.candidate (s : State) (a : Axle) : Option Nat :=
  if (s.speed a).validity = .valid ∧ (s.am.axles.get a).state ≠ .excluded then some ((s.speed a).value * 100) else none

/-- The candidate speeds. -/
def State.candidates (s : State) : List Nat := [Axle.a1, .a2, .a3, .a4, .a5, .a6].filterMap s.candidate

/-- Insertion into a rising list. -/
def insertNat (n : Nat) : List Nat → List Nat
  | [] => [n]
  | m :: rest => if n ≤ m then n :: m :: rest else m :: insertNat n rest

/-- A list in rising order. -/
def sortNat : List Nat → List Nat
  | [] => []
  | n :: rest => insertNat n (sortNat rest)

/-- The lower of the middle values (R64, not braking). -/
def lowerMedian (ns : List Nat) : Nat := (sortNat ns).getD ((ns.length - 1) / 2) 0

/-- The highest speed, limited by the previous V_ref when that was KNOWN (R64, braking). -/
def limitedHighest (decel : Nat) (previous : Option Nat) (ns : List Nat) : Nat :=
  let h := ns.foldl max 0
  match previous with
  | none => h
  | some p => min (p + 50) (max (p - decel * 5) h)

/-- The value V_ref takes with two or more candidates, within 0 to 150 km/h (R63, R64). -/
def State.vrefNow (s : State) : Nat :=
  let ns := s.candidates
  min 1500000
    (if s.braking then
      limitedHighest s.clp.working.refDecelLimit (if s.am.known then some s.am.vref else none) ns
    else lowerMedian ns)

/-- V_ref with its validity and notices (R63 to R65). -/
def vrefStep (s : State) : State :=
  let n := s.candidates.length
  if 2 ≤ n then
    let v := s.vrefNow
    let flagged := s.am.lostNotified
    let s := { s with am := { s.am with vref := v, known := true, lostNotified := false } }
    if flagged then raise (.refSpeedBack s.vrefCenti) s else s
  else
    let flagged := s.am.lostNotified
    let s := { s with am := { s.am with known := false, lostNotified := true } }
    if flagged then s else raise (.refSpeedLost n s.vrefCenti) s

/-! ## Step 3: the axles (R65 to R71) -/

/-- What an axle's move reads: its speed channel, V_ref with validity, the braking test, the slip items. -/
structure AxleInput where
  speed : Channel
  vref : Nat
  known : Bool
  braking : Bool
  slideAbs : Nat
  slideRel : Nat
  /-- R69 holds an axle without a VALID speed also while V_ref is UNKNOWN (log 41) -/
  held : Bool
  deriving DecidableEq, Repr

/-- R69 holds the axle's state at this update. -/
def AxleInput.holds (i : AxleInput) : Bool := i.speed.validity != .valid && (i.known || i.held)

/-- Slip in 0.0001 km/h (R66). -/
def AxleInput.slip (i : AxleInput) : Int := (i.vref : Int) - (i.speed.value * 100 : Nat)

/-- Slip below 0.50 km/h (R67, R68). -/
def AxleInput.close (i : AxleInput) : Bool := decide (i.slip < 5000)

/-- The deceleration test against the oldest of four entries (R66). -/
def decelTest (history : List (Nat × Validity)) (i : AxleInput) : Bool :=
  match history with
  | [(v, .valid), _, _, _] => i.speed.validity == .valid && decide (i.speed.value + 20 < v)
  | _ => false

/-- The slide condition (R66). -/
def slideCondition (history : List (Nat × Validity)) (i : AxleInput) : Bool :=
  (decide (i.slip > (i.slideAbs * 100 : Nat)) && decide (i.slip * 100 > (i.slideRel * i.vref : Nat))) ||
    decelTest history i

/-- The speed history with one entry more, at most four (R66). -/
def pushSpeed (i : AxleInput) (h : List (Nat × Validity)) : List (Nat × Validity) :=
  (h ++ [(i.speed.value, i.speed.validity)]).drop (h.length + 1 - 4)

/-- R67: the confirm count has reached 3. -/
def AxleRec.confirmDue (r : AxleRec) : Bool := r.state == .suspect && decide (3 ≤ r.confirm)

/-- SUSPECT to SLIDING at the third consecutive update (R67). -/
def AxleRec.confirmEnd (r : AxleRec) : AxleRec := if r.confirmDue then { r with state := .sliding, confirm := 0 } else r

/-- R68: the recovery timer has reached 200 ms. -/
def AxleRec.recoveryDue (r : AxleRec) : Bool := r.state == .recovery && decide (200 ≤ r.recovery)

/-- RECOVERY to ROLLING after 200 ms (R68). -/
def AxleRec.recoveryEnd (r : AxleRec) : AxleRec :=
  if r.recoveryDue then { r with state := .rolling, recovery := 0 } else r

/-- R70: the invalid count has reached 3 or the over-speed timer 1 s. -/
def AxleRec.excludeDue (r : AxleRec) : Bool :=
  r.state != .excluded && (decide (3 ≤ r.invalid) || decide (1000 ≤ r.overSpeed))

/-- Entry to EXCLUDED (R70). -/
def AxleRec.exclude (r : AxleRec) : AxleRec :=
  if r.excludeDue then
    { r with state := .excluded, confirm := 0, recovery := 0, invalid := 0, overSpeed := 0, ret := 0 }
  else r

/-- R71: the return timer has reached 2 s. -/
def AxleRec.returnDue (r : AxleRec) : Bool := r.state == .excluded && decide (2000 ≤ r.ret)

/-- EXCLUDED to ROLLING (R71). -/
def AxleRec.returnEnd (r : AxleRec) : AxleRec :=
  if r.returnDue then
    { r with state := .rolling, confirm := 0, recovery := 0, invalid := 0, overSpeed := 0, ret := 0 }
  else r

/-- The slide states of an axle with a VALID speed while V_ref is KNOWN (R67, R68). Back in SLIDING the recovery timer
is 0 (log 20). -/
def AxleRec.slideMove (i : AxleInput) (r : AxleRec) : AxleRec :=
  let c := slideCondition r.history i
  match r.state with
  | .rolling => if c then { r with state := .suspect, confirm := 1 } else r
  | .suspect =>
    if c then AxleRec.confirmEnd { r with confirm := r.confirm + 1 } else { r with state := .rolling, confirm := 0 }
  | .sliding => if i.close then { r with state := .recovery, recovery := 0 } else r
  | .recovery =>
    if c then { r with state := .sliding, recovery := 0 }
    else if i.close then AxleRec.recoveryEnd { r with recovery := r.recovery + 5 }
    else { r with recovery := 0 }
  | .excluded => r

/-- R65: with V_ref UNKNOWN a slide state goes to ROLLING. -/
def AxleRec.unknownMove (r : AxleRec) : AxleRec :=
  match r.state with
  | .suspect | .sliding | .recovery => { r with state := .rolling, confirm := 0, recovery := 0 }
  | .rolling => r
  | .excluded => r

/-- The counts of R70 for an axle that is not EXCLUDED, with what R69 holds (log 20). -/
def AxleRec.countMove (i : AxleInput) (r : AxleRec) : AxleRec :=
  match i.speed.validity with
  | .valid =>
    { r with
      invalid := 0
      overSpeed := if i.known && i.braking && decide (i.vref + 50000 < i.speed.value * 100) then r.overSpeed + 5
        else 0 }
  | .stale => { r with invalid := 0 }
  | .invalid => { r with invalid := r.invalid + 1 }

/-- The speed is within 1 km/h of V_ref (R71). -/
def AxleInput.near (i : AxleInput) : Bool := decide (-10000 ≤ i.slip) && decide (i.slip ≤ 10000)

/-- The return timer of an EXCLUDED axle (R71). -/
def AxleRec.returnMove (i : AxleInput) (r : AxleRec) : AxleRec :=
  if !i.known || i.speed.validity == .stale then r
  else if i.speed.validity == .valid && i.near then { r with ret := r.ret + 5 }
  else { r with ret := 0 }

/-- One axle at an AM update (section 4.3): not EXCLUDED, it is held (R69), goes to ROLLING with V_ref UNKNOWN (R65), or
moves by its slip, and then its counts move (R70). -/
def AxleRec.move (i : AxleInput) (r : AxleRec) : AxleRec :=
  let m :=
    if r.state = .excluded then (r.returnMove i).returnEnd
    else
      let q := if i.holds then r else if !i.known then r.unknownMove else r.slideMove i
      (q.countMove i).exclude
  { m with history := pushSpeed i r.history }

/-- What the axle moves of this update read, after step 2. -/
def State.axleInput (s : State) (held braking : Bool) (a : Axle) : AxleInput where
  speed := s.speed a
  vref := s.am.vref
  known := s.am.known
  braking := braking
  slideAbs := s.clp.working.slideAbs
  slideRel := s.clp.working.slideRel
  held := held

/-- Step 3. -/
def axleStep (held braking : Bool) (s : State) : State :=
  { s with am := { s.am with axles := s.am.axles.map (fun a r => r.move (s.axleInput held braking a)) } }

/-! ## Step 4: DEGRADED (R72) -/

/-- Two or more axles of the truck are EXCLUDED. -/
def State.degradedNow (s : State) (t : Truck) : Bool :=
  decide (2 ≤ ((s.am.axles.ofTruck t).filter (fun r => r.state == .excluded)).length)

/-- Step 4. -/
def degradedStep (s : State) : State :=
  { s with am := { s.am with
    trucks := ⟨{ s.am.trucks.t1 with degraded := s.degradedNow .t1 },
      { s.am.trucks.t2 with degraded := s.degradedNow .t2 }⟩ } }

/-! ## Step 5: the truck corrections (R73 to R77) -/

/-- An axle of the truck is SLIDING and the truck is not DEGRADED (R72, R73). -/
def State.sliding (s : State) (t : Truck) : Bool :=
  !(s.am.trucks.get t).degraded && (s.am.axles.ofTruck t).any (fun r => r.state == .sliding)

/-- A slide that starts a dump or is latched in a hold: with V_ref UNKNOWN there is none, also where R69 holds an axle in
SLIDING (R65, R78). -/
def State.slideStarts (s : State) (t : Truck) : Bool := s.am.known && s.sliding t

/-- The onset effort in kN×10 of a ramped request in 0.01 kN and a BC (R73). -/
def onsetEffortOf (airGain request bc : Nat) : Nat := (request * 10 + bc * airGain) / 100

/-- The lesser of a ceiling and an effort, in 0.01 kN (R73). -/
def Ceiling.lesser (c : Ceiling) (deci : Nat) : Nat :=
  match c with
  | .unlimited => deci * 10
  | .finite centi => min centi (deci * 10)

/-- The ceiling set at an onset (R73). -/
def onsetCeiling (w : Settings) (c : Ceiling) (effort : Nat) : Ceiling :=
  .finite (max w.ceilingFloor (w.ceilingFactor * Ceiling.lesser c effort / 1000) * 10)

/-- Entry to DUMPING of a truck's correction (R73). -/
def TruckSlide.dumpEnter (w : Settings) (request bc : Nat) (k : TruckSlide) : TruckSlide :=
  let effort := onsetEffortOf w.airGain request bc
  { k with
    correction := .dumping
    onsetRequest := request
    onsetEffort := effort
    ceiling := onsetCeiling w k.ceiling effort
    dump := 0
    dumpLimit := w.dumpLimit
    settle := 0
    latched := false }

/-- Entry to DUMPING with the values read now. -/
def dumpEnter (t : Truck) (s : State) : State :=
  s.setSlide t
    ((s.am.trucks.get t).dumpEnter s.clp.working (s.ble.trucks.get t).request ((s.chan t.bcChannel).usable 0))

/-- R75: the dump timer has reached the bound DUMP_LIMIT. -/
def TruckSlide.reapplyDue (k : TruckSlide) : Bool := k.correction == .dumping && decide (k.dumpLimit ≤ k.dump)

/-- The forced reapply when due, with its notice and trigger (R75). -/
def forcedReapply (t : Truck) (s : State) : State :=
  let k := s.am.trucks.get t
  if k.reapplyDue then
    let n := bump16 k.persist
    trigger .slidePersist false
      (raise (.slidePersist t n k.onsetEffort k.ceiling)
        (s.setSlide t { k with
          correction := .reapplyHold
          hold := 0
          holdLimit := s.clp.working.reapplyHold
          persist := n
          latched := false }))
  else s

/-- R76: the hold timer has reached the bound REAPPLY_HOLD. -/
def TruckSlide.holdDue (k : TruckSlide) : Bool := k.correction == .reapplyHold && decide (k.holdLimit ≤ k.hold)

/-- The end of the hold when due (R76); with V_ref UNKNOWN it ends with no SLIDING axle (R78). -/
def holdEnd (t : Truck) (s : State) : State :=
  let k := s.am.trucks.get t
  if k.holdDue then
    if k.latched then
      if s.slideStarts t then dumpEnter t s
      else s.setSlide t { k with correction := .settling, settle := 0, latched := false }
    else s.setSlide t { k with correction := .idle, latched := false }
  else s

/-- R77: the settle timer has reached 1 s. -/
def TruckSlide.settleDue (k : TruckSlide) : Bool := k.correction == .settling && decide (1000 ≤ k.settle)

/-- The end of the settle when due (R77). -/
def TruckSlide.settleEnd (k : TruckSlide) : TruckSlide := if k.settleDue then { k with correction := .idle } else k

/-- Step 5 for one truck. With V_ref UNKNOWN no correction enters DUMPING, and a dump goes to SETTLING with the axles that R65
takes to ROLLING (R65, R78); it goes on with an axle that R69 holds in SLIDING (R69; log 41). -/
def correctionStep (t : Truck) (s : State) : State :=
  let k := s.am.trucks.get t
  match k.correction with
  | .idle => if s.slideStarts t then dumpEnter t s else s
  | .settling =>
    if s.slideStarts t then dumpEnter t s
    else s.setSlide t (TruckSlide.settleEnd { k with settle := k.settle + 5 })
  | .dumping =>
    if s.sliding t then forcedReapply t (s.setSlide t { k with dump := k.dump + 5 })
    else s.setSlide t { k with correction := .settling, settle := 0, dump := 0 }
  | .reapplyHold => holdEnd t (s.setSlide t { k with hold := k.hold + 5, latched := k.latched || s.slideStarts t })

/-! ## Steps 6 and 7: ceilings and sand (R79, R80) -/

/-- A finite ceiling that rises for one update; above 999.9 kN it becomes OPEN (R79; log 14). -/
def Ceiling.rise (rate : Nat) (c : Ceiling) : Ceiling :=
  match c with
  | .unlimited => .unlimited
  | .finite centi => if 99990 < centi + rate / 2 then .unlimited else .finite (centi + rate / 2)

/-- Step 6 for one truck, with its correction before step 5. -/
def TruckSlide.ceilingMove (rate : Nat) (before : Correction) (k : TruckSlide) : TruckSlide :=
  if before = .idle ∧ k.correction = .idle then { k with ceiling := Ceiling.rise rate k.ceiling } else k

/-- Step 7 for one truck. -/
def TruckSlide.sandMove (known : Bool) (vref : Nat) (k : TruckSlide) : TruckSlide :=
  { k with sand := Correction.active k.correction && known && decide (30000 < vref) }

/-- The slide claims handed to the channels (R45, R61). -/
def handSlide (s : State) : State :=
  { s with tpc :=
    ⟨{ s.tpc.t1 with claims := { s.tpc.t1.claims with slide := s.am.trucks.t1.correction } },
      { s.tpc.t2 with claims := { s.tpc.t2.claims with slide := s.am.trucks.t2.correction } }⟩ }

/-- Steps 6 and 7, with the corrections before step 5. -/
def ceilingSandStep (before : PerTruck Correction) (s : State) : State :=
  let f (b : Correction) (k : TruckSlide) : TruckSlide :=
    (k.ceilingMove s.clp.working.ceilingRise b).sandMove s.am.known s.am.vref
  { s with am := { s.am with trucks := ⟨f before.t1 s.am.trucks.t1, f before.t2 s.am.trucks.t2⟩ } }

/-! ## The update (R61) and FAILSAFE (R81) -/

/-- One AM update; truck 1 moves before truck 2 (log 6). `held` says which of R65 and R69 it follows where both speak of an
axle (log 41). -/
def amStep (held : Bool) (s : State) : State :=
  let braking := s.braking
  let s := degradedStep (axleStep held braking (vrefStep s))
  let before := s.am.trucks.map (fun k => k.correction)
  handSlide (ceilingSandStep before (correctionStep .t2 (correctionStep .t1 s)))

/-- A truck's slide state as FAILSAFE leaves it: the ceiling and the persistent-slide count are kept (R81). -/
def TruckSlide.failsafe (k : TruckSlide) : TruckSlide :=
  { k with degraded := false, correction := .idle, dump := 0, hold := 0, settle := 0, latched := false,
           onsetEffort := 0, onsetRequest := 0, sand := false }

/-- FAILSAFE of the AM (R81). -/
def amFailsafe (s : State) : State :=
  handSlide { s with am := { s.am with
    known := false
    lostNotified := false
    axles := s.am.axles.map (fun _ _ => AxleRec.boot)
    trucks := s.am.trucks.map TruckSlide.failsafe } }

/-- The AM at an image update (R61). -/
def amUpdate (held : Bool) (s : State) : State := if LinkState.connected s.flm.link then amStep held s else amFailsafe s

end Sys2Proof.Machine
end

