-- ==== Sys2Proof/Machine/Blend.lean ====
section
/-! DEFINITION. The Blend Engine (chapter 2): demand, capacity, assignment, air fill, ramps, shortfall and fault,
blend state, FAILSAFE. Units: kN×10 for efforts, 0.01 kN and 0.01 kPa for ramp positions (log 35). -/
namespace Sys2Proof.Machine

/-! ## Timers and ramps -/

/-- A hold timer at one recompute: it starts from 0 when its test first holds, rises by 5 ms while the test goes on
holding, and is reset when it fails (R36, R37; scope file, section 5.3). -/
def holdNext (timer : Option Nat) (test : Bool) : Option Nat :=
  if test then
    match timer with
    | none => some 0
    | some n => some (n + 5)
  else none

/-- A hold timer has reached a time. -/
def reached (timer : Option Nat) (ms : Nat) : Bool := timer.any (fun n => decide (ms ≤ n))

/-- One recompute of a ramp at `rate` units a second, positions held to 0.01 by truncation (R19, R27, R30; log 14). -/
def approach (pos target rate : Nat) : Nat :=
  if pos < target then min target (pos + rate / 2) else max target (pos - (rate + 1) / 2)

/-! ## Inputs (R20) -/

/-- Achieved effort of a truck as the BLE counts it. -/
def State.achieved (s : State) (t : Truck) : Nat := (s.chan t.achievedChannel).usable 0

/-- Available effort of a truck as the BLE counts it. -/
def State.available (s : State) (t : Truck) : Nat := (s.chan t.availChannel).usable 0

/-- The reduction (R21, R20). -/
def State.reduction (s : State) : Nat :=
  if s.es.penalty then 150
  else if (s.chan 9).validity = .invalid then 150
  else min 150 (s.clp.working.pipeNominal - (s.chan 9).value)

/-- E_auto (R21). -/
def State.eAutoNow (s : State) : Nat := s.clp.working.autoGain * s.reduction / 10

/-- E_dh (R22). -/
def State.eDhNow (s : State) : Nat := (s.chan 11).usable 0 * s.clp.working.dynHandleFull / 1000

/-- D_dem (R22). -/
def State.dDemNow (s : State) : Nat := max s.eAutoNow s.eDhNow

/-- The follow inputs in use: those of a FOLLOWING trail (R41). -/
def State.followInUse (s : State) : Option FollowInputs := if s.following then s.ble.follow else none

/-- The effective master enable (R24, R41). -/
def State.effectiveMaster (s : State) : Bool :=
  if s.following then s.ble.master && s.ble.follow.any (fun f => f.master) else s.ble.master

/-- Bail is in force (R31). -/
def State.bail (s : State) : Bool :=
  if s.following then s.ble.follow.any (fun f => f.bail) else (s.chan 12).usable 0 == 1

/-- The independent demand in force (R41, R45). -/
def State.indepNow (s : State) : Nat :=
  match s.followInUse with
  | some f => f.indep
  | none => (s.chan 10).usable 0

/-! ## Capacity (R23 to R25) -/

/-- The DB curve at a speed in 0.01 km/h, as a fraction of kN×10 (R23). -/
def curveFrac : List (Nat × Nat) → Nat → Nat × Nat
  | [], _ => (0, 1)
  | [p], _ => (p.2, 1)
  | p :: q :: rest, v =>
    if v ≤ p.1 then (p.2, 1)
    else if v < q.1 then (p.2 * (q.1 - v) + q.2 * (v - p.1), q.1 - p.1)
    else curveFrac (q :: rest) v

/-- The curve term of a truck, truncated to 0.1 kN: halved while V_ref is UNKNOWN or the truck DEGRADED, once (R23). -/
def State.curveTerm (s : State) (t : Truck) : Nat :=
  let f := curveFrac s.clp.working.dbCurve s.vrefCenti
  if !s.am.known || (s.am.trucks.get t).degraded then f.1 / (2 * f.2) else f.1 / f.2

/-- The lesser of an effort in kN×10 and a ceiling. -/
def Ceiling.bound (c : Ceiling) (e : Nat) : Nat :=
  match c with
  | .unlimited => e
  | .finite centi => min e (centi / 10)

/-- Case 1 of R24: the effective master enable or the truck's enable is clear, or its DB fault is latched. -/
def State.barred (s : State) (t : Truck) : Bool :=
  !s.effectiveMaster || !(s.ble.trucks.get t).enable || (s.ble.trucks.get t).dbFault

/-- The open capacity of a truck: what case 3 of R24 gives without the SHORTFALL term, 0 where dynamic brake is barred
(R24, R37; log 15). -/
def State.openCapacity (s : State) (t : Truck) : Nat :=
  if s.barred t then 0 else Ceiling.bound (s.am.trucks.get t).ceiling (min (s.curveTerm t) (s.available t))

/-- Capacity of a truck (R24), 0 while DB_AVAIL is INVALID (R20; log 40). -/
def State.capacityOf (s : State) (t : Truck) : Nat :=
  let a := s.am.trucks.get t
  if s.barred t || (s.chan t.availChannel).validity == .invalid then 0
  else if a.correction = .dumping then a.onsetRequest / 20
  else if (s.ble.trucks.get t).shortfall = .shortfall then min (s.openCapacity t) (s.achieved t)
  else s.openCapacity t

/-- The capacity an ACTIVE entry counts: its last reported one, 0 while it has none (R25). -/
def Entry.counted (e : Entry) : Nat :=
  if e.state = .active then (e.last.map (fun l => l.capacity)).getD 0 else 0

/-- The capacity of the counted roster entries (R25). -/
def State.othersCapacity (s : State) : Nat :=
  if s.leading then (s.csl.roster.map Entry.counted).sum else 0

/-! ## Assignment (R26, R41) -/

/-- `n × part / whole`, 0 when the whole is 0. -/
def portion (n part whole : Nat) : Nat := if whole = 0 then 0 else n * part / whole

/-- The dynamic share of the own unit when its trucks have a capacity of `own` together (R26, R41). -/
def State.ownShare (s : State) (own : Nat) : Nat :=
  match s.followInUse with
  | some f => min f.share own
  | none => portion (min s.dDemNow (own + s.othersCapacity)) own (own + s.othersCapacity)

/-- The dynamic target of a truck of capacity `mine` when both trucks together have `own` (R26, R41). -/
def State.targetOf (s : State) (mine own : Nat) : Nat := portion (s.ownShare own) mine own

/-! ## Shortfall and fault (R36 to R38) -/

/-- A truck returned to NORMAL with all three timers at 0. -/
def TruckBlend.toNormal (k : TruckBlend) : TruckBlend :=
  { k with shortfall := .normal, below := none, clear := none, duration := 0 }

/-- R36: the below timer has reached 200 ms in NORMAL. -/
def TruckBlend.entryDue (k : TruckBlend) : Bool := k.shortfall == .normal && reached k.below 200

/-- Entry to SHORTFALL (R36); the below timer does not run in SHORTFALL and in FAULT (log 15). -/
def TruckBlend.enterShortfall (k : TruckBlend) : TruckBlend :=
  if k.entryDue then { k with shortfall := .shortfall, below := none, clear := none, duration := 0 } else k

/-- R37: the clear timer has reached 1 s in SHORTFALL. -/
def TruckBlend.clearDue (k : TruckBlend) : Bool := k.shortfall == .shortfall && reached k.clear 1000

/-- Return to NORMAL (R37). -/
def TruckBlend.clearShortfall (k : TruckBlend) : TruckBlend := if k.clearDue then k.toNormal else k

/-- R38: the truck has been in SHORTFALL for 5 s. -/
def TruckBlend.faultDue (k : TruckBlend) : Bool := k.shortfall == .shortfall && decide (5000 ≤ k.duration)

def State.setBlend (t : Truck) (k : TruckBlend) (s : State) : State :=
  { s with ble := { s.ble with trucks := s.ble.trucks.set t k } }

/-- The below test and timer of a truck in NORMAL (R36): achieved less than 0.9 × request − 5 kN, with the request as
handed to the FLM at the recompute before. -/
def belowStep (s : State) (t : Truck) : TruckBlend :=
  let k := s.ble.trucks.get t
  if k.shortfall = .normal then
    TruckBlend.enterShortfall
      { k with below := holdNext k.below (decide (10 * s.achieved t + 500 < 9 * (k.handed / 10))) }
  else if k.shortfall = .shortfall then { k with duration := k.duration + 5 }
  else k

/-- The wanted request of a truck: its target with its open capacity, all else unchanged (R37). -/
def State.wanted (s : State) (t : Truck) : Nat :=
  let other := match t with
    | .t1 => Truck.t2
    | .t2 => Truck.t1
  s.targetOf (s.openCapacity t) (s.openCapacity t + s.capacityOf other)

/-- The clear test and timer of a truck in SHORTFALL (R37): achieved at least 0.95 × wanted request. -/
def clearStep (s : State) (t : Truck) : TruckBlend :=
  let k := s.ble.trucks.get t
  if k.shortfall = .shortfall then
    TruckBlend.clearShortfall { k with clear := holdNext k.clear (decide (95 * s.wanted t ≤ 100 * s.achieved t)) }
  else k

/-- The DB fault of a truck latches when due, with its notice and trigger (R38); the duration and clear timers stay as
they stand while the truck is in FAULT (log 15). -/
def latchDbFault (t : Truck) (s : State) : State :=
  let k := s.ble.trucks.get t
  if k.faultDue then
    trigger .blendFault false
      (raise (.dbFault t (k.request / 10) (s.achieved t))
        (s.setBlend t { k with dbFault := true, shortfall := .fault }))
  else s

/-- The shortfall steps of a recompute: below tests, clear tests, fault latches, T1 before T2. Both clear tests read one state, so
a truck's wanted request counts the other's capacity still clamped where the other returns to NORMAL here (log 15). -/
def shortfallSteps (s : State) : State :=
  let s := { s with ble := { s.ble with trucks := ⟨belowStep s .t1, belowStep s .t2⟩ } }
  let s := { s with ble := { s.ble with trucks := ⟨clearStep s .t1, clearStep s .t2⟩ } }
  latchDbFault .t2 (latchDbFault .t1 s)

/-! ## Ramped requests (R27) -/

/-- The ramped dynamic request at one recompute (R27). -/
def moveRequest (master : Bool) (rate cap target request : Nat) : Nat :=
  if !master then 0
  else if cap * 10 < request then cap * 10
  else approach request (target * 10) rate

/-! ## Air fill (R28 to R31) -/

/-- An own truck whose channel is not in FAULT (R28, R57). -/
def State.airCapable (s : State) (t : Truck) : Bool := (s.tpc.get t).state != .fault

/-- The own air-capable trucks. -/
def State.ownAirTrucks (s : State) : Nat := (s.airCapable .t1).toNat + (s.airCapable .t2).toNat

/-- The trucks that a roster entry counts in K (R28). -/
def Entry.airTrucks (e : Entry) : Nat :=
  if e.state = .active then
    match e.last with
    | none => 2
    | some l => if l.flags.failsafe then 0 else 2 - l.flags.fault.t1.toNat - l.flags.fault.t2.toNat
  else 0

/-- K, the counted air-capable trucks (R28). -/
def State.countedTrucks (s : State) : Nat :=
  s.ownAirTrucks + if s.leading then (s.csl.roster.map Entry.airTrucks).sum else 0

/-- The air demand on each truck: effort in kN×10 and pressure in kPa (R28, R41). -/
def State.airPerTruck (s : State) (aFill : Nat) : Nat × Nat :=
  match s.followInUse with
  | some f =>
    let p := if f.bail then 0 else f.fill
    (p * s.clp.working.airGain / 100, p)
  | none =>
    let e := portion aFill 1 s.countedTrucks
    (e, e * 100 / s.clp.working.airGain)

/-- The lowest cap on a truck's blend air target, with its ramped dynamic request (R29). -/
def State.airCap (s : State) (t : Truck) (request : Nat) : Nat :=
  let a := s.am.trucks.get t
  let c := match a.ceiling with
    | .unlimited => s.clp.working.serviceMax
    | .finite centi => min s.clp.working.serviceMax ((centi - request) * 10 / s.clp.working.airGain)
  if !s.am.known || a.degraded then min c 250 else c

/-- The ramped blend air target at one recompute: an at-once fall to a cap below it, else AIR_RATE (R30; log 17). -/
def moveAir (rate cap target pos : Nat) : Nat := if cap * 100 < pos then cap * 100 else approach pos (target * 100) rate

/-- The new values of one own truck at a recompute: capacity, target, request, computed air target, adhesion-limited
effort and air ramp (R24, R26, R27, R29, R30; log 16). -/
def truckRecompute (s : State) (own effort pressure : Nat) (t : Truck) : TruckBlend :=
  let k := s.ble.trucks.get t
  let w := s.clp.working
  let cap := s.capacityOf t
  let target := s.targetOf cap own
  let request := moveRequest s.effectiveMaster w.dynRate cap target k.request
  let air := s.airCap t request
  let computed := if s.airCapable t then min pressure air else 0
  { k with
    capacity := cap
    dynTarget := target
    request := request
    handed := request
    computedAir := computed
    limited := if s.airCapable t then (effort * 100 - computed * w.airGain) / 100 else 0
    airTarget := moveAir w.airRate air computed k.airTarget }

/-! ## Blend state (R32) -/

/-- The blend state computed from the own targets (table of R32). -/
def computedBlend (dyn air : Nat) : BlendState :=
  if dyn = 0 then (if air = 0 then .released else .air)
  else if air = 0 then .dynamic
  else .blended

/-- The blend state shown while the link is UP or DEGRADED (R32). -/
def shownBlend (latch : Bool) (k : PerTruck TruckBlend) : BlendState :=
  if latch then .emergency
  else computedBlend (k.t1.dynTarget + k.t2.dynTarget) (k.t1.computedAir + k.t2.computedAir)

/-! ## Results (R19, R40, R41, R43) -/

/-- The consist shares offered at a recompute on a lead not in CONFLICT (R40). -/
def State.shareSet (s : State) (dAssign total pressure : Nat) : Option ShareSet :=
  if s.leading then
    some
      { shares := s.csl.roster.map (fun e => (e.ident, portion dAssign e.counted total))
        fill := pressure
        indep := (s.chan 10).usable 0
        emergency := s.es.latch
        bail := s.bail
        penalty := s.es.penalty
        master := s.ble.master }
  else none

/-- Hand the claims to the channels (R45). -/
def handClaims (s : State) : State :=
  let claim (t : Truck) : Tpc :=
    let c := s.tpc.get t
    { c with claims := { c.claims with air := (s.ble.trucks.get t).airTarget / 100, indep := s.indepNow } }
  { s with tpc := ⟨claim .t1, claim .t2⟩ }

/-- D_assign as computed or, while following, the received share (R26, R41). -/
def State.dAssignNow (s : State) (own : Nat) : Nat :=
  match s.followInUse with
  | some f => f.share
  | none => min s.dDemNow (own + s.othersCapacity)

/-- A_fill as computed or, while following, the received pressure as an effort (R28, R31, R41). -/
def State.aFillNow (s : State) (own : Nat) : Nat :=
  match s.followInUse with
  | some f => if f.bail then 0 else f.fill * s.clp.working.airGain * s.ownAirTrucks / 100
  | none => if s.bail then 0 else s.eAutoNow - min s.dDemNow (own + s.othersCapacity)

/-- The BLE's quantities of one recompute, after the shortfall steps. -/
def bleQuantities (s : State) : Ble :=
  let own := s.capacityOf .t1 + s.capacityOf .t2
  let total := if s.followInUse.isSome then own else own + s.othersCapacity
  let dAssign := s.dAssignNow own
  let aFill := s.aFillNow own
  let air := s.airPerTruck aFill
  let trucks : PerTruck TruckBlend := ⟨truckRecompute s own air.1 air.2 .t1, truckRecompute s own air.1 air.2 .t2⟩
  let blend := shownBlend s.es.latch trucks
  { s.ble with
    blend := blend
    trucks := trucks
    eAuto := s.eAutoNow
    eDh := s.eDhNow
    dDem := s.dDemNow
    capacity := total
    dAssign := dAssign
    aFill := aFill
    offered := s.shareSet dAssign total air.2
    handover := ⟨own, s.achieved .t1 + s.achieved .t2, blend, ⟨!s.airCapable .t1, !s.airCapable .t2⟩⟩ }

/-- A recompute (R19). -/
def bleRecompute (s : State) : State :=
  let s := shortfallSteps s
  handClaims { s with ble := bleQuantities s }

/-- FAILSAFE (R33, R43; log 15): ramps to 0, shortfall states NORMAL, shares withdrawn; enables, latches and follow inputs are
kept. -/
def bleFailsafe (s : State) : State :=
  { s with ble := { s.ble with
    blend := .failsafe
    trucks := s.ble.trucks.map (fun k => { k.toNormal with request := 0, handed := 0, airTarget := 0 })
    offered := none
    handover := { s.ble.handover with capacity := 0, achieved := 0, blend := .failsafe } } }

/-- The BLE at an image update (R19, R33). -/
def bleUpdate (s : State) : State := if LinkState.connected s.flm.link then bleRecompute s else bleFailsafe s

end Sys2Proof.Machine
end

