-- ==== Sys2Proof/Machine/FieldLink.lean ====
section
/-! DEFINITION. The Field Link Master (chapter 1): the field-cycle tick, the measurement image, the status compare and
the link state. -/
namespace Sys2Proof.Machine

/-! ## The tick (R1, R2) -/

/-- The items put in force at a cycle start (R1). -/
def takeInForce (w : Settings) (f : Flm) : Flm :=
  { f with mapInForce := w.slotMap, compareInForce := w.statusCompare, maskInForce := w.statusMask,
           senseInForce := w.statusSense }

/-- The time base moves by one cycle of 5 ms: the timers that are measured on it (scope file, section 5.3; R16, R91,
R104, R111, R130, R162, R183). -/
def advance (s : State) : State :=
  { s with
    time := s.time + 5
    flm := { s.flm with matchAge := s.flm.matchAge.map (· + 5) }
    es := { s.es with held := if s.es.latch then s.es.held + 5 else s.es.held }
    csl := { s.csl with
      cycleTicks := if s.csl.role = .lead then s.csl.cycleTicks + 1 else s.csl.cycleTicks
      silence := s.csl.silence.map (· + 5) }
    cap := { s.cap with sealTicks := s.cap.sealTicks + 1 }
    store := { s.store with scrubTicks := s.store.scrubTicks + 1 }
    clp := { s.clp with reportIn := s.clp.reportIn.map (· - 5) } }

/-- The counter of the cycle that begins: 0 in the first, else one more, wrapping (R1). -/
def nextCounter (s : State) : Word16 := if s.begun then s.flm.counter + 1 else 0

/-- The frame built at a cycle start from the values held then (R2). -/
def buildOutbound (s : State) : OutFrame := ⟨s.flm.counter, s.outSlots⟩

/-- A field cycle starts (R1): the time base moves (from the second cycle on), the counter takes its value, the items
are put in force, the outbound frame is built and its sending begins. -/
def fieldCycleStart (s : State) : State :=
  let n := nextCounter s
  let s := if s.begun then advance s else s
  let s := { s with begun := true, flm := takeInForce s.clp.working { s.flm with counter := n, phase := .sending } }
  { s with flm := { s.flm with outbound := some (buildOutbound s) } }

/-- The last byte of the outbound frame has been sent: the reply window opens (R3). -/
def outboundFrameSent (s : State) : State :=
  if s.flm.phase = .sending then { s with flm := { s.flm with phase := .window } } else s

/-! ## The measurement image (R4, R5) -/

/-- The greatest valid slot value of a channel (section 1.2). -/
def channelMax (n : Nat) : Nat :=
  if n ≤ 5 then 15000 else if n = 10 then 450 else if n = 12 then 1 else if 13 ≤ n then 3000 else 1000

/-- R4 for one channel with its slot in force. -/
def channelGood (slots : List Word16) (n slot : Nat) (c : Channel) : Channel :=
  let v := (slots.getD slot 0).toNat
  if slot ≠ 0 ∧ v ≤ channelMax n then ⟨v, .valid, 0⟩ else { c with validity := .invalid, age := 0 }

/-- R5 for one channel. -/
def channelBad (c : Channel) : Channel :=
  match c.validity with
  | .valid => { c with validity := .stale, age := 1 }
  | .stale => if c.age < 2 then { c with age := 2 } else { c with validity := .invalid, age := 0 }
  | .invalid => c

/-- R4 for the image. -/
def imageGood (map : List Nat) (slots : List Word16) (image : List Channel) : List Channel :=
  image.zipIdx.map (fun p => channelGood slots p.2 (map.getD p.2 0) p.1)

/-! ## The status compare (R14 to R16) -/

/-- The status word matches the pattern under a mask that is not 0 (R14). -/
def Flm.matches (f : Flm) : Bool :=
  f.maskInForce != 0 && ((f.statusWord ^^^ f.compareInForce) &&& f.maskInForce) == 0

/-- The trigger condition of R15 and R16, with the last-match flag as before this cycle. -/
def Flm.matchRaises (f : Flm) : Bool :=
  Flm.matches f &&
    match f.senseInForce with
    | .edge => !f.lastMatch
    | .level => f.matchAge.all (fun a => decide (10000 ≤ a))

/-- The compare of a good cycle: the trigger when it is due, and the last-match flag. -/
def statusCompare (s : State) : State :=
  let raised := Flm.matchRaises s.flm
  let s := { s with flm := { s.flm with
    lastMatch := Flm.matches s.flm
    matchAge := if raised then some 0 else s.flm.matchAge } }
  if raised then trigger .statusMatch false s else s

/-! ## The link state (R7 to R11) -/

/-- Entry to UP: CONTROL_ACTIVE on, and FIELD_LINK_UP when coming from LOST, the lost-cycle count taking this decision
in (R7, R10, R11). -/
def enterUp (s : State) : State :=
  let wasLost := s.flm.link == .lost
  let s := { s with flm := { s.flm with link := .up, controlActive := true } }
  if wasLost then raise (.fieldLinkUp s.flm.counter s.flm.lostCount) s else s

/-- Entry to LOST: CONTROL_ACTIVE and with it the valve drivers off, the notice and the trigger (R10, R11). -/
def enterLost (s : State) : State :=
  let s := { s with flm := { s.flm with link := .lost, lostCount := 0, controlActive := false } }
  trigger .linkLost false (raise (.fieldLinkLost s.flm.counter) s)

/-- R7: a good cycle. -/
def countGood (f : Flm) : Flm := { f with goodRun := min 255 (f.goodRun + 1), badRun := 0 }

/-- R7: a bad cycle. -/
def countBad (f : Flm) : Flm := { f with badRun := min 255 (f.badRun + 1), goodRun := 0 }

/-- R7: the lost-cycle count rises at each decision made in LOST. -/
def countLost (f : Flm) : Flm := if f.link = .lost then { f with lostCount := f.lostCount + 1 } else f

/-- The transitions of R8 and R9 on the updated counts. -/
def linkTransition (good : Bool) (s : State) : State :=
  match s.flm.link with
  | .start | .lost => if good && decide (8 ≤ s.flm.goodRun) then enterUp s else s
  | .up => if good then s else { s with flm := { s.flm with link := .degraded } }
  | .degraded =>
    if good then { s with flm := { s.flm with link := .up } }
    else if 3 ≤ s.flm.badRun then enterLost s
    else s

/-- The FLM's part of a decision (R3): counts, image, status word and compare, link state. That the compare of a good
cycle comes before its link transition is the model's choice (log 39). -/
def flmDecision (rx : Inbound) (s : State) : State :=
  let s := { s with flm := { countLost s.flm with phase := .decided } }
  match goodSlots s.flm.counter rx with
  | some slots =>
    let f := countGood s.flm
    let s := { s with flm := { f with
      image := imageGood f.mapInForce slots f.image
      statusWord := slots.getD 0 0 } }
    linkTransition true (statusCompare s)
  | none =>
    let f := countBad s.flm
    linkTransition false { s with flm := { f with image := f.image.map channelBad } }

end Sys2Proof.Machine
end

