-- ==== Sys2Proof/Machine/Tpc.lean ====
section
/-! DEFINITION. The truck pressure channels (chapter 3): the decision of R46 to R53, the sensor fault, the response
supervision and the clearing of a channel fault. -/
namespace Sys2Proof.Machine

def State.setTpc (t : Truck) (c : Tpc) (s : State) : State := { s with tpc := s.tpc.set t c }

/-- BC of a truck in the image. -/
def State.bc (s : State) (t : Truck) : Channel := s.chan t.bcChannel

/-! ## The pieces of a decision -/

/-- The channel is in APPLYING or RELEASING. -/
def ChannelState.moving (c : ChannelState) : Bool := c == .applying || c == .releasing

/-- Supervision timer, reference and count at 0 (R53). -/
def Tpc.superviseOff (c : Tpc) : Tpc := { c with window := 0, progressRef := 0, noProgress := 0 }

/-- Drivers off. -/
def Tpc.driversOff (c : Tpc) : Tpc := { c with apply := false, release := false }

/-- Entry to OFF, and every decision in it (R59); the sensor fault condition clears at a decision with BC VALID (R54). -/
def Tpc.off (bc : Validity) (c : Tpc) : Tpc :=
  { c.driversOff.superviseOff with
    state := .off
    sensorFault := c.sensorFault && bc != .valid
    target := 0
    ramp := none
    claims := { c.claims with air := 0, indep := 0 }
    slideRead := c.claims.slide }

/-- The channel first reads SETTLING after DUMPING or REAPPLY_HOLD (R49). The claims compared are those read at two
decisions: one handed and replaced between them is not seen (log 19). -/
def Tpc.settleStarts (c : Tpc) : Bool :=
  c.claims.slide == .settling && (c.slideRead == .dumping || c.slideRead == .reapplyHold)

/-- A ramp that has reached or passed the base ends (R49). -/
def Tpc.rampUntilBase (c : Tpc) (v : Nat) : Option Nat := if c.base * 100 ≤ v then none else some v

/-- The settle ramp at a decision (R49): ended by FAULT, the emergency claim or a dump, started at BC, else risen by
0.2 kPa. -/
def Tpc.rampNext (faulty : Bool) (bc : Nat) (c : Tpc) : Option Nat :=
  if faulty || c.claims.emergency || c.claims.slide == .dumping then none
  else if c.settleStarts then c.rampUntilBase (bc * 100)
  else
    match c.ramp with
    | none => none
    | some v => c.rampUntilBase (v + 20)

/-- The state by the table of R47, the link UP or DEGRADED. -/
def Tpc.choose (bc : Channel) (c : Tpc) : ChannelState :=
  if c.latch ≠ .clear ∨ bc.validity = .invalid then .fault
  else if c.claims.slide = .dumping then .dumping
  else if bc.validity = .stale then .lapped
  else if bc.value + 10 < c.target then .applying
  else if c.target + 10 < bc.value then .releasing
  else .lapped

/-- The drivers follow the state (R50). -/
def Tpc.drive (c : Tpc) : Tpc :=
  { c with apply := c.state == .applying, release := c.state == .releasing || c.state == .dumping }

/-- The supervision of a decision that came from state `before` (R53, R55): off outside APPLYING and RELEASING, begun
at an entry, else 5 ms on. -/
def Tpc.supervise (before : ChannelState) (bc : Nat) (c : Tpc) : Tpc :=
  if !ChannelState.moving c.state then c.superviseOff
  else if c.state = before then { c with window := c.window + 5 }
  else { c with window := 0, progressRef := bc, noProgress := 0 }

/-! ## Supervision window end (R55) -/

/-- The window of 1 s has ended. -/
def Tpc.windowDue (c : Tpc) : Bool := ChannelState.moving c.state && decide (1000 ≤ c.window)

/-- At least 5 kPa of progress since the reference. -/
def Tpc.progressed (bc : Nat) (c : Tpc) : Bool :=
  if c.state = .applying then decide (c.progressRef + 5 ≤ bc) else decide (bc + 5 ≤ c.progressRef)

/-- The end of a supervision window: count, new reference, new window (R55). -/
def Tpc.windowEnd (bc : Nat) (c : Tpc) : Tpc :=
  if c.windowDue then
    { c with noProgress := if c.progressed bc then 0 else c.noProgress + 1, progressRef := bc, window := 0 }
  else c

/-- The supervision window end of a truck's channel. -/
def windowEnd (t : Truck) (s : State) : State := s.setTpc t ((s.tpc.get t).windowEnd (s.bc t).value)

/-! ## Channel fault (R54, R56) -/

/-- The no-progress count has reached 3. -/
def Tpc.faultDue (c : Tpc) : Bool := ChannelState.moving c.state && c.latch == .clear && decide (3 ≤ c.noProgress)

/-- The cause of a latched fault: NO_APPLY in APPLYING, NO_RELEASE in RELEASING. -/
def Tpc.latchCause (c : Tpc) : ChannelFaultCause := if c.state = .applying then .noApply else .noRelease

/-- The channel after the latch (R56). -/
def Tpc.latchFault (c : Tpc) : Tpc :=
  { c.driversOff.superviseOff with
    state := .fault
    ramp := none
    latch := if c.state = .applying then .noApply else .noRelease }

/-- A channel fault latches when due, with its notice and trigger (R56). The notice carries, and the channel holds until its
next decision, the target computed before the latch ended a settle ramp (log 37). -/
def latchChannelFault (t : Truck) (s : State) : State :=
  let c := s.tpc.get t
  if c.faultDue then
    trigger .blendFault false
      (raise (.channelFault t c.latchCause c.target (s.bc t).value) (s.setTpc t c.latchFault))
  else s

/-- The notice and trigger of an entry to FAULT by an INVALID BC (R54, R59). -/
def sensorFaultEntry (t : Truck) (before : ChannelState) (s : State) : State :=
  if (s.bc t).validity = .invalid ∧ before ≠ .fault then
    trigger .blendFault false (raise (.channelFault t .bcInvalid (s.tpc.get t).target (s.bc t).value) s)
  else s

/-! ## The decision (R46) -/

/-- The channel after steps 1 to 3 of a decision with the link UP or DEGRADED, before its window ends and faults. -/
def Tpc.decide (w : Settings) (bc : Channel) (c : Tpc) : Tpc :=
  let faulty := c.latch != .clear || bc.validity == .invalid
  let d := { c with sensorFault := bc.validity == Validity.invalid, ramp := c.rampNext faulty bc.value }
  let d := { d with target := d.targetOf w.emergPressure, slideRead := c.claims.slide }
  Tpc.supervise c.state bc.value (Tpc.drive { d with state := d.choose bc })

/-- The decision of a truck's channel at an image update (R46, R59). -/
def tpcDecide (t : Truck) (s : State) : State :=
  let c := s.tpc.get t
  if LinkState.connected s.flm.link then
    let s := s.setTpc t (Tpc.decide s.clp.working (s.bc t) c)
    latchChannelFault t (windowEnd t (sensorFaultEntry t c.state s))
  else s.setTpc t (c.off (s.bc t).validity)

/-! ## FAULT_CLEAR (R56) -/

/-- The table of R56: effect of a clearing on a channel. -/
def Tpc.clearFault (w : Settings) (bc : Validity) (c : Tpc) : Tpc :=
  if c.latch = .clear then c
  else
    match c.state with
    | .fault =>
      if bc = .invalid then { c with latch := .clear }
      else
        let c := { c.driversOff with latch := .clear, state := .lapped }
        { c with target := c.targetOf w.emergPressure }
    | .off => { c with latch := .clear }
    | .lapped | .applying | .releasing | .dumping => c

/-- FAULT_CLEAR with CHANNEL or BOTH on a truck. -/
def clearChannelFault (t : Truck) (s : State) : State :=
  s.setTpc t ((s.tpc.get t).clearFault s.clp.working (s.bc t).validity)

end Sys2Proof.Machine
end

