-- ==== Sys2Proof/Machine/Cycle.lean ====
section
/-! DEFINITION. The field cycle as a whole: the decision with the blocks that act on its image update (R3, R19, R46,
R61, R83), and the events that occur at a decision. -/
namespace Sys2Proof.Machine

/-! ## The decision -/

/-- The blocks that act on an image update. -/
inductive Block where
  | ble | tpc | am | es
  deriving DecidableEq, Repr

/-- The blocks in an order (log 6). -/
def blockList (o : BlockOrder) : List Block :=
  (([Block.ble].insertIdx o.tpc.val .tpc).insertIdx o.am.val .am).insertIdx o.es.val .es

/-- A block acts on the image update; `held` is for the AM (log 41). -/
def Block.run (held : Bool) (b : Block) (s : State) : State :=
  match b with
  | .ble => bleUpdate s
  | .tpc => tpcDecide .t2 (tpcDecide .t1 s)
  | .am => amUpdate held s
  | .es => esUpdate s

/-- The blocks act one after another. -/
def runBlocks (held : Bool) : List Block → State → State
  | [], s => s
  | b :: rest, s => runBlocks held rest (b.run held s)

/-- The decision of the cycle: the FLM's part, then the readers (R3). -/
def cycleDecision (d : CycleEnd) (s : State) : State :=
  runBlocks d.held (blockList d.order) (flmDecision d.rx s)

/-- The decision where the reply window is open; a cycle is decided once. -/
def fieldCycleDecision (d : CycleEnd) (s : State) : State := if s.flm.phase = .window then cycleDecision d s else s

/-- The decision `d` when the event named by `occurs` (before, after) falls at it; otherwise the row does not occur. -/
def decisionWith (occurs : State → State → Bool) (d : CycleEnd) (s : State) : State :=
  let t := fieldCycleDecision d s
  if occurs s t then t else s

/-- An event row: with a decision, the decision at which it falls; without, its transition where its condition stands
reached (log 1). -/
def eventAt (occurs : State → State → Bool) (own : State → State) (d : Option CycleEnd) (s : State) : State :=
  match d with
  | none => own s
  | some e => decisionWith occurs e s

/-! ## Which event falls at a decision -/

def linkUpOccurs (s t : State) : Bool := !LinkState.connected s.flm.link && LinkState.connected t.flm.link

def linkLostOccurs (s t : State) : Bool := s.flm.link == .degraded && t.flm.link == .lost

def shortfallEntryOccurs (k : Truck) (s t : State) : Bool :=
  (s.ble.trucks.get k).shortfall == .normal && (t.ble.trucks.get k).shortfall != .normal

def shortfallClearOccurs (k : Truck) (s t : State) : Bool :=
  (s.ble.trucks.get k).shortfall == .shortfall && (t.ble.trucks.get k).shortfall == .normal &&
    LinkState.connected t.flm.link

def dbFaultOccurs (k : Truck) (s t : State) : Bool := !(s.ble.trucks.get k).dbFault && (t.ble.trucks.get k).dbFault

def channelFaultOccurs (k : Truck) (s t : State) : Bool :=
  (s.tpc.get k).latch == .clear && (t.tpc.get k).latch != .clear

def windowEndOccurs (k : Truck) (s t : State) : Bool :=
  ChannelState.moving (s.tpc.get k).state && decide (995 ≤ (s.tpc.get k).window) &&
    ((t.tpc.get k).state == (s.tpc.get k).state || channelFaultOccurs k s t)

/-- An axle goes from one state to another. -/
def axleGoes (a : Axle) (x y : AxleState) (s t : State) : Bool :=
  (s.am.axles.get a).state == x && (t.am.axles.get a).state == y

def axleExcludeOccurs (a : Axle) (s t : State) : Bool :=
  (s.am.axles.get a).state != .excluded && (t.am.axles.get a).state == .excluded

/-- A correction leaves one state for another at an AM update. -/
def correctionLeaves (k : Truck) (x : Correction) (next : Correction → Bool) (s t : State) : Bool :=
  (s.am.trucks.get k).correction == x && next (t.am.trucks.get k).correction && LinkState.connected t.flm.link

/-! ## The rows -/

/-- FIELD_CYCLE_START. -/
def execFieldCycleStart (s : State) : Host.Outcome State Fault Refusal := act fieldCycleStart s

/-- OUTBOUND_FRAME_SENT. -/
def execOutboundFrameSent (s : State) : Host.Outcome State Fault Refusal := act outboundFrameSent s

/-- FIELD_CYCLE_DECISION. -/
def execFieldCycleDecision (d : CycleEnd) (s : State) : Host.Outcome State Fault Refusal :=
  act (fieldCycleDecision d) s

/-- FIELD_LINK_UP: the decision that takes the link to UP from START or LOST (R9). -/
def execFieldLinkUp (d : CycleEnd) (s : State) : Host.Outcome State Fault Refusal :=
  act (decisionWith linkUpOccurs d) s

/-- FIELD_LINK_LOST: the decision that takes the link to LOST (R10). -/
def execFieldLinkLost (d : CycleEnd) (s : State) : Host.Outcome State Fault Refusal :=
  act (decisionWith linkLostOccurs d) s

/-- The transition of R36 for a truck. -/
def shortfallEntry (k : Truck) (s : State) : State := s.setBlend k (TruckBlend.enterShortfall (s.ble.trucks.get k))

/-- The transition of R37 for a truck. -/
def shortfallClear (k : Truck) (s : State) : State := s.setBlend k (TruckBlend.clearShortfall (s.ble.trucks.get k))

/-- SHORTFALL_ENTRY. -/
def execShortfallEntry (k : Truck) (d : Option CycleEnd) (s : State) : Host.Outcome State Fault Refusal :=
  act (eventAt (shortfallEntryOccurs k) (shortfallEntry k) d) s

/-- SHORTFALL_CLEAR. -/
def execShortfallClear (k : Truck) (d : Option CycleEnd) (s : State) : Host.Outcome State Fault Refusal :=
  act (eventAt (shortfallClearOccurs k) (shortfallClear k) d) s

/-- DB_FAULT_LATCH. -/
def execDbFaultLatch (k : Truck) (d : Option CycleEnd) (s : State) : Host.Outcome State Fault Refusal :=
  act (eventAt (dbFaultOccurs k) (latchDbFault k) d) s

/-- SUPERVISION_WINDOW_END. -/
def execSupervisionWindowEnd (k : Truck) (d : Option CycleEnd) (s : State) : Host.Outcome State Fault Refusal :=
  act (eventAt (windowEndOccurs k) (windowEnd k) d) s

/-- CHANNEL_FAULT_LATCH. -/
def execChannelFaultLatch (k : Truck) (d : Option CycleEnd) (s : State) : Host.Outcome State Fault Refusal :=
  act (eventAt (channelFaultOccurs k) (latchChannelFault k) d) s

/-- An axle's own transition. -/
def axleEvent (a : Axle) (f : AxleRec → AxleRec) (s : State) : State := s.setAxle a (f (s.am.axles.get a))

/-- AXLE_SLIDE_CONFIRM. -/
def execAxleSlideConfirm (a : Axle) (d : Option CycleEnd) (s : State) : Host.Outcome State Fault Refusal :=
  act (eventAt (axleGoes a .suspect .sliding) (axleEvent a AxleRec.confirmEnd) d) s

/-- AXLE_RECOVERY_END; with V_ref UNKNOWN the axle goes to ROLLING by R65 instead. -/
def execAxleRecoveryEnd (a : Axle) (d : Option CycleEnd) (s : State) : Host.Outcome State Fault Refusal :=
  act (eventAt (fun s t => axleGoes a .recovery .rolling s t && t.am.known) (axleEvent a AxleRec.recoveryEnd) d) s

/-- AXLE_EXCLUDE. -/
def execAxleExclude (a : Axle) (d : Option CycleEnd) (s : State) : Host.Outcome State Fault Refusal :=
  act (eventAt (axleExcludeOccurs a) (axleEvent a AxleRec.exclude) d) s

/-- AXLE_RETURN; at FAILSAFE the axle goes to ROLLING by R81 instead. -/
def execAxleReturn (a : Axle) (d : Option CycleEnd) (s : State) : Host.Outcome State Fault Refusal :=
  act (eventAt (fun s t => axleGoes a .excluded .rolling s t && LinkState.connected t.flm.link)
    (axleEvent a AxleRec.returnEnd) d) s

/-- FORCED_REAPPLY; the transition alone hands the new claim (R75). -/
def execForcedReapply (k : Truck) (d : Option CycleEnd) (s : State) : Host.Outcome State Fault Refusal :=
  act (eventAt (correctionLeaves k .dumping (· == .reapplyHold)) (fun s => handSlide (forcedReapply k s)) d) s

/-- REAPPLY_HOLD_END. -/
def execReapplyHoldEnd (k : Truck) (d : Option CycleEnd) (s : State) : Host.Outcome State Fault Refusal :=
  act (eventAt (correctionLeaves k .reapplyHold (· != .reapplyHold)) (fun s => handSlide (holdEnd k s)) d) s

/-- The transition of R77 for a truck, with the claim handed. -/
def settleEnd (k : Truck) (s : State) : State :=
  handSlide (s.setSlide k (TruckSlide.settleEnd (s.am.trucks.get k)))

/-- SETTLE_END. -/
def execSettleEnd (k : Truck) (d : Option CycleEnd) (s : State) : Host.Outcome State Fault Refusal :=
  act (eventAt (correctionLeaves k .settling (· == .idle)) (settleEnd k) d) s

/-! ## DYNAMIC_ENABLE and FAULT_CLEAR (R35, R39) -/

/-- The truck of a code (R195). -/
def truckOf (n : Nat) : Option Truck :=
  match n with
  | 1 => some .t1
  | 2 => some .t2
  | _ => none

/-- A truck with its DB fault latch cleared and its shortfall state NORMAL (R35). -/
def TruckBlend.faultCleared (k : TruckBlend) : TruckBlend := { TruckBlend.toNormal k with dbFault := false }

/-- R35 for one truck. -/
def TruckBlend.enableTo (named value : Bool) (k : TruckBlend) : TruckBlend :=
  if named then { TruckBlend.faultCleared k with enable := value } else k

/-- DYNAMIC_ENABLE (R35, R197). -/
def serveDynamicEnable (p : List Byte) (s : State) : Served :=
  let m := rd8 p 0
  let v := rd8 p 1
  let sets := (m.testBit 0 && v.testBit 0) || (m.testBit 1 && v.testBit 1)
  accept { s with ble := { s.ble with
    trucks := ⟨s.ble.trucks.t1.enableTo (m.testBit 0) (v.testBit 0), s.ble.trucks.t2.enableTo (m.testBit 1) (v.testBit 1)⟩
    master := s.ble.master || sets } }

/-- FAULT_CLEAR with DB or BOTH on a truck (R38, R39): a truck not latched keeps its shortfall state and timers. -/
def clearDbFault (k : Truck) (s : State) : State :=
  let b := s.ble.trucks.get k
  if b.dbFault then s.setBlend k b.faultCleared else s

/-- FAULT_CLEAR on its named truck, the clear value 0 to 2 (R39). -/
def serveFaultClear (f : Truck → State → State) (p : List Byte) (s : State) : Served :=
  match truckOf (rd8 p 0) with
  | none => refuse .badValue s
  | some k => if rd8 p 1 ≤ 2 then accept (f k s) else refuse .badValue s

/-- DYNAMIC_ENABLE. -/
def execDynamicEnable (tag : Byte) (payload : List Byte) (s : State) : Host.Outcome State Fault Refusal :=
  act (takeRequest .dynamicEnable ⟨0x0A#8, tag, payload⟩ serveDynamicEnable) s

/-- FAULT_CLEAR with CHANNEL. -/
def execFaultClearChannel (tag : Byte) (payload : List Byte) (s : State) : Host.Outcome State Fault Refusal :=
  act (takeRequest .faultClearChannel ⟨0x0E#8, tag, payload⟩ (serveFaultClear clearChannelFault)) s

/-- FAULT_CLEAR with DB. -/
def execFaultClearDb (tag : Byte) (payload : List Byte) (s : State) : Host.Outcome State Fault Refusal :=
  act (takeRequest .faultClearDb ⟨0x0E#8, tag, payload⟩ (serveFaultClear clearDbFault)) s

/-- FAULT_CLEAR with BOTH. -/
def execFaultClearBoth (tag : Byte) (payload : List Byte) (s : State) : Host.Outcome State Fault Refusal :=
  act (takeRequest .faultClearBoth ⟨0x0E#8, tag, payload⟩
    (serveFaultClear (fun k s => clearDbFault k (clearChannelFault k s)))) s

end Sys2Proof.Machine
end

