-- ==== Sys2Proof/Machine/Readout.lean ====
section
/-! DEFINITION. The readout streams (chapter 10): STREAM_OPEN, STREAM_ACK, STREAM_ABORT, the page read of a stream, the
end of its frame. -/
namespace Sys2Proof.Machine

/-! ## The bytes of a block (section 12.2) -/

/-- The 3 bytes of one truck's summary. -/
def TruckSummary.bytes (t : TruckSummary) : List Byte :=
  packFields [(3, t.channel.code), (2, t.correction.code)] ++ u16 t.request

/-- Byte 10: role, follow state on a trail or conflict on a lead, 0 on an OFFLINE unit (log 45), active unit count. -/
def Summary.roleByte (s : Summary) : List Byte :=
  let two := match s.role with
    | .offline => 0
    | .lead => s.conflict.toNat
    | .trail => (s.follow.map Follow.code).getD 0
  packFields [(2, s.role.code), (2, two), (3, s.activeUnits)]

/-- Bytes 0 to 11 of a block: the state summary. -/
def Summary.bytes (s : Summary) : List Byte :=
  packFields [(3, s.blend.code), (2, s.link.code), (1, s.vrefKnown.toNat)] ++
    TruckSummary.bytes s.trucks.t1 ++ TruckSummary.bytes s.trucks.t2 ++
    packFields (s.axles.toList.map (fun a => (3, a.code))) ++ Summary.roleByte s ++
    packFields [(3, s.cause.code), (1, s.penalty.toNat), (1, s.master.toNat), (1, s.sand.t1.toNat), (1, s.sand.t2.toNat)]

/-- A stored block as read out: 17 + 2m bytes for m masked quantities. An A_fill above 65,535 kN×10 is sent modulo 2^16
(log 50). -/
def SampleBlock.bytes (b : SampleBlock) : List Byte :=
  Summary.bytes b.summary ++ [b.marks] ++
    packFields (b.quantities.map (fun q => (2, q.validity.code)) ++ [(32 - 2 * b.quantities.length, 0)]) ++
    b.quantities.flatMap (fun q => u16 q.value)

/-- A stored block as a frame carries it. -/
def SampleBlock.raw (b : SampleBlock) : RawBlock := ⟨b.seq, b.time, SampleBlock.bytes b⟩

/-! ## The frame built of a page (R170, R171) -/

/-- The length of a block as read out, for a record's mask (section 12.2). -/
def rawLength (mask : BitVec 24) : Nat := 17 + 2 * maskCount mask

/-- A block as read, its bytes cut or filled to the length of the record's blocks. -/
def RawBlock.fit (n : Nat) (b : RawBlock) : RawBlock := { b with body := (b.body ++ List.replicate n 0).take n }

/-- The page's blocks as read: those that a bad read gives stand in place of the stored ones (log 11). -/
def asRead (mask : BitVec 24) (stored : List SampleBlock) : ReadResult → List RawBlock
  | .good => stored.map SampleBlock.raw
  | .bad bs => bs.map (RawBlock.fit (rawLength mask)) ++ (stored.drop bs.length).map SampleBlock.raw

/-- The channel mask of a slot's record. -/
def State.maskOf (s : State) (slot : Nat) : BitVec 24 := ((s.entry slot).record.map (fun i => i.mask)).getD 0

/-- The first window block of a page. -/
def Stream.frameFirst (d : Stream) (page : Nat) : Nat := max d.first (4 * page)

/-- The block after the last window block of a page. -/
def Stream.frameEnd (d : Stream) (page : Nat) : Nat := min (d.last + 1) (4 * page + 4)

/-- The STREAM_DATA frame of a page: its window blocks (R170). -/
def Stream.frame (d : Stream) (n : StreamNo) (page : Nat) (blocks : List RawBlock) (damaged : Bool) : StreamFrame :=
  let lo := d.frameFirst page
  ⟨n, d.record, lo, damaged, (blocks.drop (lo - 4 * page)).take (d.frameEnd page - lo)⟩

/-- The completion of a stream's page read (R169); a read that was dropped is not used (R173). -/
def streamPageReadDone (n : StreamNo) (r : ReadResult) (s : State) : State :=
  match s.store.port with
  | some (.streamRead m slot page used) =>
    if m = n then
      let s := { s with store := { s.store with port := none } }
      let d := s.rdu.get n
      if used = true ∧ d.state = .running then
        let bad := match r with
          | .good => false
          | .bad _ => true
        s.setStream n { d with buffer := some (d.frame n page (asRead (s.maskOf slot) (s.pageBlocks slot page) r) bad) }
      else s
    else s
  | _ => s

/-! ## The end of a frame (R169, R172) -/

/-- The test of R172 on the frame just sent, the next pointer moved. -/
def Stream.test (d : Stream) (f : StreamFrame) : Option Completion :=
  if d.stopAtTrigger = true ∧ f.index ≤ d.trigIndex ∧ d.trigIndex < f.index + f.blocks.length then some .triggerPoint
  else if d.next = (d.last : Int) then some .windowEnd
  else if d.single then some .singleDone
  else none

/-- The descriptor once the frame has been sent: next pointer and damaged-page count (R169). -/
def Stream.sent (d : Stream) (f : StreamFrame) : Stream :=
  { d with next := (f.index : Int) + (f.blocks.length : Int) - 1, damaged := d.damaged + f.damaged.toNat }

/-- The end of a stream's frame on the line (R169, R172, R173). -/
def streamFrameSent (f : StreamFrame) (s : State) : State :=
  let n := f.stream
  let d := (s.rdu.get n).sent f
  let s := s.setStream n d
  match d.status with
  | some c => completeStream n c s
  | none =>
    match d.test f with
    | some c => completeStream n c s
    | none => s.setStream n { d with ask := true }

/-! ## The requests -/

/-- A block index that may stand one before block 0, sent modulo 2^16 (log 25). -/
def indexBytes (i : Int) : List Byte := u16 (i % 65536).toNat

/-- The descriptor of an accepted STREAM_OPEN (R168). -/
def openedStream (i : RecordInfo) (first last : Nat) (single stop : Bool) : Stream where
  state := .running
  record := i.number
  first := first
  last := last
  next := (first : Int) - 1
  single := single
  stopAtTrigger := stop
  trigIndex := i.pre
  damaged := 0
  status := none
  ask := true
  buffer := none

/-- The tests of R168 in order. -/
def streamOpenTest (d : Stream) (found : Option (Nat × SlotState × RecordInfo)) (first last : Nat) :
    Except ReplyStatus RecordInfo :=
  if d.state = .running then .error .busy
  else if d.state = .complete then .error .notAcked
  else
    match found with
    | none => .error .noRecord
    | some (_, st, i) =>
      if st ≠ .closed then .error .wrongState
      else if first ≤ last ∧ last < i.blocks then .ok i
      else .error .badValue

/-- STREAM_OPEN (R168). -/
def serveStreamOpen (p : List Byte) (s : State) : Served :=
  let n := streamOf (rd8 p 0)
  if 1 < rd8 p 9 ∨ 1 < rd8 p 10 then refuse .badValue s
  else
    match streamOpenTest (s.rdu.get n) (s.findRecord (rd32 p 1)) (rd16 p 5) (rd16 p 7) with
    | .error e => refuse e s
    | .ok i => accept (s.setStream n (openedStream i (rd16 p 5) (rd16 p 7) (rd8 p 9 == 1) (rd8 p 10 == 1)))

/-- The descriptor that the OK reply to STREAM_ACK carries (R175). -/
def Stream.ackBytes (d : Stream) : List Byte :=
  u32 d.record ++ u8 ((d.status.map Completion.code).getD 0) ++ indexBytes d.next ++ u16 d.damaged

/-- STREAM_ACK (R175). -/
def serveStreamAck (p : List Byte) (s : State) : Served :=
  let n := streamOf (rd8 p 0)
  let d := s.rdu.get n
  if d.state = .complete then .reply .ok d.ackBytes (s.setStream n Stream.boot) else refuse .wrongState s

/-- A stream is RUNNING. -/
def State.streamRunning (s : State) (n : StreamNo) : Bool := (s.rdu.get n).state == .running

/-- STREAM_ABORT (R174). -/
def serveStreamAbort (p : List Byte) (s : State) : Served :=
  if rd8 p 0 = 2 then
    if s.streamRunning .s0 || s.streamRunning .s1 then
      accept (decideStream .s1 .aborted (decideStream .s0 .aborted s))
    else refuse .wrongState s
  else
    let n := streamOf (rd8 p 0)
    if s.streamRunning n then accept (decideStream n .aborted s) else refuse .wrongState s

/-! ## The rows -/

/-- STREAM_OPEN. -/
def execStreamOpen (tag : Byte) (payload : List Byte) (s : State) : Host.Outcome State Fault Refusal :=
  act (takeRequest .streamOpen ⟨0x13#8, tag, payload⟩ serveStreamOpen) s

/-- STREAM_ACK. -/
def execStreamAck (tag : Byte) (payload : List Byte) (s : State) : Host.Outcome State Fault Refusal :=
  act (takeRequest .streamAck ⟨0x14#8, tag, payload⟩ serveStreamAck) s

/-- STREAM_ABORT. -/
def execStreamAbort (tag : Byte) (payload : List Byte) (s : State) : Host.Outcome State Fault Refusal :=
  act (takeRequest .streamAbort ⟨0x15#8, tag, payload⟩ serveStreamAbort) s

/-- STREAM_PAGE_READ_DONE. -/
def execStreamPageReadDone (n : StreamNo) (r : ReadResult) (s : State) : Host.Outcome State Fault Refusal :=
  act (streamPageReadDone n r) s

end Sys2Proof.Machine
end

