-- ==== Sys2Proof/Machine/Formats.lean ====
section
/-! DEFINITION. The bytes of the frames that the part sends on the control link (section 12.2): replies, notices, status
reports, STREAM_DATA. -/
namespace Sys2Proof.Machine

/-! ## The envelope (R194, section 12.2) -/

/-- A control link frame of a kind, a tag and a payload. -/
def controlFrame (kind tag : Byte) (payload : List Byte) : List Byte :=
  let body := u8 (payload.length + 2) ++ [kind, tag] ++ payload
  0x5A#8 :: body ++ wordBytes (crc16 body)

/-! ## Notices (R182, R195, section 12.2) -/

/-- Cause and item number of CONFIG_DEFAULTED (R195). -/
def DefaultCause.bytes : DefaultCause → List Byte
  | .badCheck => u8 0 ++ u8 0
  | .outOfRange n => u8 1 ++ u8 n

/-- The notice code, 1 to 25 in the order of section 12.2. -/
def NoticeBody.code : NoticeBody → Nat
  | .emergencyOn .. => 1
  | .emergencyOff .. => 2
  | .penaltyOn _ => 3
  | .penaltyOff _ => 4
  | .slidePersist .. => 5
  | .refSpeedLost .. => 6
  | .refSpeedBack _ => 7
  | .dbFault .. => 8
  | .channelFault .. => 9
  | .fieldLinkLost _ => 10
  | .fieldLinkUp .. => 11
  | .unitLost .. => 12
  | .unitJoined .. => 13
  | .leadSilent .. => 14
  | .leadResumed .. => 15
  | .leadConflict .. => 16
  | .rollCallDone .. => 17
  | .duplicateIdentity _ => 18
  | .recordClosed .. => 19
  | .storeFull .. => 20
  | .recordDamaged .. => 21
  | .eraseDone .. => 22
  | .streamDone .. => 23
  | .commitDone _ => 24
  | .configDefaulted _ => 25

/-- The fields that a notice's rule names, in its order, each in the width of R195 (log 25). -/
def NoticeBody.fields : NoticeBody → List Byte
  | .emergencyOn cause pipe v vref known => u8 cause.code ++ u16 pipe ++ u8 v.code ++ u16 vref ++ flagByte known
  | .emergencyOff cause ms m => u8 cause.code ++ u32 ms ++ u8 m.code
  | .penaltyOn c => u8 c
  | .penaltyOff c => u8 c
  | .slidePersist t n onset c => u8 t.code ++ u16 n ++ u16 onset ++ u16 c.deci
  | .refSpeedLost n vref => u16 n ++ u16 vref
  | .refSpeedBack vref => u16 vref
  | .dbFault t request achieved => u8 t.code ++ u16 request ++ u16 achieved
  | .channelFault t cause target bc => u8 t.code ++ u8 cause.code ++ u16 target ++ u16 bc
  | .fieldLinkLost n => wordBytes n
  | .fieldLinkUp n lost => wordBytes n ++ u16 lost
  | .unitLost i cap n => u32 i ++ u16 cap ++ wordBytes n
  | .unitJoined i cap => u32 i ++ u16 cap
  | .leadSilent i n => u32 i ++ wordBytes n
  | .leadResumed i n => u32 i ++ wordBytes n
  | .leadConflict src kind n => u32 src ++ u8 kind ++ wordBytes n
  | .rollCallDone st found failed => u8 st.code ++ u16 found ++ u16 failed
  | .duplicateIdentity i => u32 i
  | .recordClosed n slot c blocks src p =>
    u32 n ++ u8 slot ++ u8 c.code ++ u16 blocks ++ u8 src.code ++ flagByte p
  | .storeFull src time n => u8 src.code ++ u32 time.toNat ++ u16 n
  | .recordDamaged n slot page => u32 n ++ u8 slot ++ u16 page
  | .eraseDone slot n => u8 slot ++ u32 n
  | .streamDone n record st last damaged =>
    u8 n.code ++ u32 record ++ u8 st.code ++ indexBytes last ++ u16 damaged
  | .commitDone n => u16 n
  | .configDefaulted c => DefaultCause.bytes c

/-- The payload of a notice frame. -/
def Notice.payload (n : Notice) : List Byte := u8 n.body.code ++ u32 n.time.toNat ++ n.body.fields

/-! ## STREAM_DATA (section 12.2) -/

/-- The payload of a STREAM_DATA frame. -/
def StreamFrame.payload (f : StreamFrame) : List Byte :=
  let head := f.blocks.head?
  u8 f.stream.code ++ u32 f.record ++ u16 f.index ++
    packFields [(1, f.damaged.toNat), (4, 0), (3, f.blocks.length)] ++
    u32 ((head.map (fun b => b.seq.toNat)).getD 0) ++ u32 ((head.map (fun b => b.time.toNat)).getD 0) ++
    f.blocks.flatMap (fun b => b.body)

/-! ## Frames on the line -/

/-- The bytes of a frame on the TX line. -/
def TxFrame.bytes : TxFrame → List Byte
  | .reply r => controlFrame r.kind r.tag (u8 r.status.code ++ r.payload)
  | .notice n => controlFrame 0xC0#8 0 n.payload
  | .report c => controlFrame 0xC1#8 0 c
  | .stream f => controlFrame 0xC2#8 0 f.payload

end Sys2Proof.Machine
end

