-- ==== Sys2Proof/Machine/ControlLink.lean ====
section
/-! DEFINITION. The control link receiver (R177, R179), the status report (R183), and the requests that the CLP itself
owns: IDENTIFY, STATUS, CONFIG_READ, CONFIG_WRITE, CONFIG_COMMIT, RESTART. -/
namespace Sys2Proof.Machine

/-! ## The receiver (R177) -/

/-- What the characters after a start byte come to: a frame still open, a frame abandoned with the place, counted from
the start byte, at which hunting resumes, or a frame complete with the number of its characters. -/
inductive FrameEnd where
  | openFrame
  | abandoned (resume : Nat)
  | complete (f : ReqFrame) (length : Nat)
  deriving DecidableEq, Repr

/-- A frame whose bytes after the start byte are all there, by its CRC. -/
def closeFrame (got : List Byte) : FrameEnd :=
  let n := rd8 got 0
  if got.drop (n + 1) = wordBytes (crc16 (got.take (n + 1))) then
    .complete ⟨got.getD 1 0, got.getD 2 0, (got.drop 3).take (n - 2)⟩ (n + 4)
  else .abandoned 1

/-- The characters of a frame in turn: `got` the bytes taken since the start byte. -/
def walkFrame : List Byte → List RxChar → FrameEnd
  | _, [] => .openFrame
  | got, c :: rest =>
    if c.gap then .abandoned (got.length + 1)
    else if !c.stopOk then .abandoned 1
    else
      let g := got ++ [c.byte]
      let n := rd8 g 0
      if n < 2 ∨ 250 < n then .abandoned 1
      else if g.length = n + 3 then closeFrame g
      else walkFrame g rest

/-- What a receiver makes of characters: those of a frame left open, the frames received, the frames abandoned. -/
structure Received where
  left : List RxChar
  frames : List ReqFrame
  bad : Nat
  deriving DecidableEq, Repr

/-- Hunting over characters (R177); `fuel` at least their number. A 0x5A with its stop bit at space begins no frame and is
not counted (log 43). -/
def receive : Nat → List RxChar → Received
  | 0, _ => ⟨[], [], 0⟩
  | _, [] => ⟨[], [], 0⟩
  | fuel + 1, c :: rest =>
    if c.stopOk = true ∧ c.byte = 0x5A#8 then
      match walkFrame [] rest with
      | .openFrame => ⟨c :: rest, [], 0⟩
      | .abandoned k =>
        let r := receive fuel (rest.drop (k - 1))
        { r with bad := r.bad + 1 }
      | .complete f n =>
        let r := receive fuel (rest.drop (n - 1))
        { r with frames := f :: r.frames }
    else receive fuel rest

/-- What the receiver makes of its open frame and the characters that follow. -/
def State.received (s : State) (cs : List RxChar) : Received :=
  let all := s.clp.receiver ++ cs
  receive (all.length + 1) all

/-- A received request joins the queue, or is discarded and counted (R179). -/
def enqueue (f : ReqFrame) (s : State) : State :=
  if s.clp.queue.length < 4 then { s with clp := { s.clp with queue := s.clp.queue ++ [f] } }
  else { s with clp := { s.clp with discarded := bump16 s.clp.discarded } }

/-- The receiver, the counts and the queue after a reception. -/
def takeReceived (r : Received) (s : State) : State :=
  r.frames.foldl (fun t f => enqueue f t)
    { s with clp := { s.clp with receiver := r.left, badFrames := min 65535 (s.clp.badFrames + r.bad) } }

/-- Characters in which at least one frame completes (R179). The receiver is enabled from the first field cycle start
(R193). -/
def requestReceived (cs : List RxChar) (s : State) : State :=
  let r := s.received cs
  if s.begun = true ∧ r.frames ≠ [] then takeReceived r s else s

/-- Characters at which at least one frame is abandoned (R177). -/
def frameAbandoned (cs : List RxChar) (s : State) : State :=
  let r := s.received cs
  if s.begun = true ∧ 0 < r.bad then takeReceived r s else s

/-! ## The status report (R183) -/

/-- The report is due at this tick. -/
def State.reportDue (s : State) : Bool := s.clp.reportIn.any (fun n => decide (n ≤ 0))

/-- The due moment: its report takes the slot and the next due moment is set (R183). The report carries the timestamp of
its due moment (log 36). -/
def reportDue (s : State) : State :=
  match s.clp.reportIn with
  | none => s
  | some n =>
    if n ≤ 0 then
      if s.clp.working.reportInterval = 0 then { s with clp := { s.clp with reportIn := none } }
      else
        { s with clp := { s.clp with
          reportSlot := some (s.statusContent (s.time - BitVec.ofNat 32 (-n).toNat))
          reportIn := some (n + s.clp.working.reportInterval) } }
    else s

/-! ## IDENTIFY, STATUS, RESTART (R185, R184, R192) -/

/-- IDENTIFY (R185; widths of chip code and revision by log 25). -/
def serveIdentify (_ : List Byte) (s : State) : Served :=
  .reply .ok (u16 Config.chipCode ++ [s.rom.siliconRevision] ++ u32 s.ownIdentity ++ u32 s.rom.factoryIdentity) s

/-- STATUS (R184). -/
def serveStatus (_ : List Byte) (s : State) : Served := .reply .ok (s.statusContent s.time) s

/-- RESTART (R192): answered OK; the part restarts at the end of the reply. -/
def serveRestart (_ : List Byte) (s : State) : Served := accept s

/-! ## CONFIG_READ and CONFIG_WRITE (R186, R187) -/

/-- CONFIG_READ (R186): working value, image value, differing flag. -/
def serveConfigRead (p : List Byte) (s : State) : Served :=
  let n := rd8 p 0
  let w := itemBytes n (rd8 p 1) s.clp.working
  let i := itemBytes n (rd8 p 1) s.clp.image
  .reply .ok (w ++ i ++ flagByte (decide (w ≠ i) || !s.clp.imageValid)) s

/-- The working set with one item written. -/
def setWorking (w : Settings) (s : State) : State := { s with clp := { s.clp with working := w } }

/-- The range test of a CONFIG_WRITE (R187): the item's own code and the written item within its range. -/
def writeInRange (n : Nat) (v : List Byte) (w : Settings) : Bool :=
  codeInRange n v && itemInRange n (Settings.write n v w)

/-- CONFIG_WRITE of an item with its condition: range first, then condition (R187). -/
def serveWriteIf (cond : State → Option ReplyStatus) (after : State → State → State) (p : List Byte) (s : State) :
    Served :=
  let n := rd8 p 0
  let v := p.drop 1
  if writeInRange n v s.clp.working then
    match cond s with
    | some e => refuse e s
    | none => accept (after s (setWorking (Settings.write n v s.clp.working) s))
  else refuse .badValue s

/-- No condition (table of section 11.4). -/
def noCondition (_ : State) : Option ReplyStatus := none

/-- UNIT_IDENTITY only in OFFLINE (R188). -/
def offlineOnly (s : State) : Option ReplyStatus := if s.csl.role = .offline then none else some .wrongRole

/-- SLOT_MAP in FAILSAFE, or RELEASED while stationary (R13). -/
def slotMapState (s : State) : Option ReplyStatus :=
  if s.ble.blend = .failsafe ∨ (s.ble.blend = .released ∧ s.stationary = true) then none else some .wrongState

/-- A nonzero REPORT_INTERVAL written while no report is due sets the next due moment: the first tick at or after one
interval from the write, which falls between two ticks (R183; log 4). -/
def scheduleReport (before after : State) : State :=
  if before.clp.reportIn.isNone && after.clp.working.reportInterval != 0 then
    { after with clp := { after.clp with reportIn := some ((after.clp.working.reportInterval : Int) + 5) } }
  else after

/-- Nothing follows a write. -/
def justWrite (_ after : State) : State := after

/-- CONFIG_WRITE of an item without a rule of its own (R187). -/
def serveConfigWrite (p : List Byte) (s : State) : Served := serveWriteIf noCondition justWrite p s

/-- CONFIG_WRITE of UNIT_IDENTITY (R188). -/
def serveWriteUnitIdentity (p : List Byte) (s : State) : Served := serveWriteIf offlineOnly justWrite p s

/-- CONFIG_WRITE of SLOT_MAP (R13). -/
def serveWriteSlotMap (p : List Byte) (s : State) : Served := serveWriteIf slotMapState justWrite p s

/-- CONFIG_WRITE of DB_CURVE (R23). -/
def serveWriteDbCurve (p : List Byte) (s : State) : Served := serveWriteIf noCondition justWrite p s

/-- CONFIG_WRITE of TRIGGER_ENABLE (R134). -/
def serveWriteTriggerEnable (p : List Byte) (s : State) : Served := serveWriteIf noCondition justWrite p s

/-- CONFIG_WRITE of RECORD_CHANNELS (R145). -/
def serveWriteRecordChannels (p : List Byte) (s : State) : Served := serveWriteIf noCondition justWrite p s

/-- CONFIG_WRITE of REPORT_INTERVAL (R183). -/
def serveWriteReportInterval (p : List Byte) (s : State) : Served := serveWriteIf noCondition scheduleReport p s

/-! ## CONFIG_COMMIT (R190) -/

/-- The items listed by a commit, in ascending number. -/
def State.commitList (s : State) : List Nat :=
  allItems.filter (fun n => !s.clp.imageValid || !Settings.sameItem n s.clp.working s.clp.image)

/-- CONFIG_COMMIT (R190). -/
def serveConfigCommit (_ : List Byte) (s : State) : Served :=
  match s.clp.commit with
  | some _ => refuse .busy s
  | none =>
    match s.commitList with
    | [] => .reply .accepted [] (raise (.commitDone 0) s)
    | items =>
      .reply .accepted []
        { s with clp := { s.clp with commit := some ⟨s.clp.working, items, items.length, true⟩ } }

/-! ## The rows -/

/-- CONTROL_FRAME_ABANDONED. -/
def execControlFrameAbandoned (cs : List RxChar) (s : State) : Host.Outcome State Fault Refusal :=
  act (frameAbandoned cs) s

/-- REQUEST_RECEIVED. -/
def execRequestReceived (cs : List RxChar) (s : State) : Host.Outcome State Fault Refusal := act (requestReceived cs) s

/-- REPORT_DUE. -/
def execReportDue (s : State) : Host.Outcome State Fault Refusal := act reportDue s

/-- IDENTIFY. -/
def execIdentify (tag : Byte) (payload : List Byte) (s : State) : Host.Outcome State Fault Refusal :=
  act (takeRequest .identify ⟨0x01#8, tag, payload⟩ serveIdentify) s

/-- STATUS. -/
def execStatus (tag : Byte) (payload : List Byte) (s : State) : Host.Outcome State Fault Refusal :=
  act (takeRequest .status ⟨0x02#8, tag, payload⟩ serveStatus) s

/-- CONFIG_READ. -/
def execConfigRead (tag : Byte) (payload : List Byte) (s : State) : Host.Outcome State Fault Refusal :=
  act (takeRequest .configRead ⟨0x03#8, tag, payload⟩ serveConfigRead) s

/-- CONFIG_WRITE of an item without a row of its own. -/
def execConfigWrite (tag : Byte) (payload : List Byte) (s : State) : Host.Outcome State Fault Refusal :=
  act (takeRequest .configWrite ⟨0x04#8, tag, payload⟩ serveConfigWrite) s

/-- CONFIG_WRITE of UNIT_IDENTITY. -/
def execConfigWriteUnitIdentity (tag : Byte) (payload : List Byte) (s : State) : Host.Outcome State Fault Refusal :=
  act (takeRequest .writeUnitIdentity ⟨0x04#8, tag, payload⟩ serveWriteUnitIdentity) s

/-- CONFIG_WRITE of SLOT_MAP. -/
def execConfigWriteSlotMap (tag : Byte) (payload : List Byte) (s : State) : Host.Outcome State Fault Refusal :=
  act (takeRequest .writeSlotMap ⟨0x04#8, tag, payload⟩ serveWriteSlotMap) s

/-- CONFIG_WRITE of DB_CURVE. -/
def execConfigWriteDbCurve (tag : Byte) (payload : List Byte) (s : State) : Host.Outcome State Fault Refusal :=
  act (takeRequest .writeDbCurve ⟨0x04#8, tag, payload⟩ serveWriteDbCurve) s

/-- CONFIG_WRITE of TRIGGER_ENABLE. -/
def execConfigWriteTriggerEnable (tag : Byte) (payload : List Byte) (s : State) : Host.Outcome State Fault Refusal :=
  act (takeRequest .writeTriggerEnable ⟨0x04#8, tag, payload⟩ serveWriteTriggerEnable) s

/-- CONFIG_WRITE of RECORD_CHANNELS. -/
def execConfigWriteRecordChannels (tag : Byte) (payload : List Byte) (s : State) : Host.Outcome State Fault Refusal :=
  act (takeRequest .writeRecordChannels ⟨0x04#8, tag, payload⟩ serveWriteRecordChannels) s

/-- CONFIG_WRITE of REPORT_INTERVAL. -/
def execConfigWriteReportInterval (tag : Byte) (payload : List Byte) (s : State) : Host.Outcome State Fault Refusal :=
  act (takeRequest .writeReportInterval ⟨0x04#8, tag, payload⟩ serveWriteReportInterval) s

/-- CONFIG_COMMIT. -/
def execConfigCommit (tag : Byte) (payload : List Byte) (s : State) : Host.Outcome State Fault Refusal :=
  act (takeRequest .configCommit ⟨0x05#8, tag, payload⟩ serveConfigCommit) s

/-- RESTART. -/
def execRestart (tag : Byte) (payload : List Byte) (s : State) : Host.Outcome State Fault Refusal :=
  act (takeRequest .restart ⟨0x16#8, tag, payload⟩ serveRestart) s

end Sys2Proof.Machine
end

