-- ==== Sys2Proof/Machine/Capture.lean ====
section
/-! DEFINITION. The Capture Unit (chapter 8): sealing a sample block, the overrun test, the completions that move a
capture, pending triggers after a close, and MARK. -/
namespace Sys2Proof.Machine

/-! ## Sealing (R130 to R133, R143) -/

/-- The block that a seal makes (R130). -/
def State.sealedBlock (s : State) : SampleBlock :=
  ⟨s.cap.fill, s.time, s.quantities, s.summary, s.alsoRecorded, s.cap.marks⟩

/-- The ring with one block more, the 512 most recent (R133). -/
def ringPush (b : SampleBlock) (ring : List SampleBlock) : List SampleBlock :=
  let r := ring ++ [b]
  r.drop (r.length - Config.ringSize)

/-- The seal would overwrite a block of the open record that is not yet in a page (R143). -/
def State.overruns (s : State) : Bool :=
  match s.cap.ring, s.cap.record with
  | oldest :: _, some r =>
    decide (Config.ringSize ≤ s.cap.ring.length) && r.close.isNone &&
      (s.cap.state == .allocating || s.cap.state == .capturing) &&
      decide (r.copied ≤ r.offset oldest.seq) && r.covers oldest.seq
  | _, _ => false

/-- A waiting page write of the capture is withdrawn (R143). -/
def withdrawPage (w : Option WriterOp) : Option WriterOp := if w = some .page then none else w

/-- The window ends TRUNCATED; with no page write in progress a CAPTURING capture enters CLOSING (R143, R139). -/
def truncate (s : State) : State :=
  match s.cap.record with
  | none => s
  | some r =>
    let s := { s with store := { s.store with writer := withdrawPage s.store.writer } }
    if s.cap.state = .capturing ∧ pageWriting s.store.port = false then enterClosing .truncated r s
    else { s with cap := { s.cap with record := some { r with close := some .truncated } } }

/-- A sample block is due: every 4th tick. -/
def State.sealDue (s : State) : Bool := decide (4 ≤ s.cap.sealTicks)

/-- The seal (R130), with the overrun test before the overwriting (R133, R143). -/
def sealBlock (s : State) : State :=
  if s.sealDue then
    let b := s.sealedBlock
    let s := if s.overruns then truncate s else s
    writerAsk { s with cap := { s.cap with
      sealTicks := s.cap.sealTicks - 4
      ring := ringPush b s.cap.ring
      fill := s.cap.fill + 1
      marks := 0 } }
  else s

/-! ## Completions of the capture's store operations (R139, R142, R144, R145) -/

/-- The port falls idle at the completion of its operation. -/
def portIdle (s : State) : State := { s with store := { s.store with port := none } }

/-- A page of a slot stands in the memory as written (R149, R157; log 26). -/
def storePage (slot page : Nat) (bs : List SampleBlock) (verified : Bool) (s : State) : State :=
  { s with nv := { s.nv with pages := pagesWrite (pageAddr slot page) ⟨bs, verified⟩ s.nv.pages } }

/-- The blocks of a verified page count in the working entry (R157). -/
def countBlocks (slot n : Nat) (s : State) : State := s.updRecord slot (fun i => { i with blocks := i.blocks + n })

/-- What follows a page write of the open record (R142 to R145). -/
def afterPage (verified : Bool) (r : OpenRecord) (s : State) : State :=
  match r.close, verified with
  | some c, _ => enterClosing c r s
  | none, false => enterClosing .storeError r s
  | none, true => if r.span ≤ r.copied then enterClosing .complete r s else writerAsk s

/-- The completion of a page write (R157). -/
def pageWriteDone (verified : Bool) (s : State) : State :=
  match s.store.port with
  | some (.page slot page bs) =>
    let s := storePage slot page bs verified (portIdle s)
    let s := if verified then countBlocks slot bs.length s else s
    match s.cap.record with
    | none => s
    | some r => afterPage verified r s
  | _ => s

/-- A slot's pages are erased and its stored entry is FREE (R149). -/
def eraseSlot (slot : Nat) (s : State) : State :=
  State.setStored slot .free { s with nv := { s.nv with pages := pagesErase slot s.nv.pages } }

/-- The completion of a reclaim erase (R139, R151). -/
def reclaimEraseDone (s : State) : State :=
  match s.store.port with
  | some (.reclaimErase slot) =>
    let s := eraseSlot slot (portIdle s)
    let s := s.setEntry slot { s.entry slot with state := .capturing }
    { s with store := { s.store with writer := some .opening } }
  | _ => s

/-- The completion of the opening entry write (R139, R156). -/
def openingEntryWritten (s : State) : State :=
  match s.store.port with
  | some (.opening slot i) =>
    let s := State.setStored slot (.capturing i) (portIdle s)
    match s.cap.record with
    | none => s
    | some r =>
      match r.close with
      | some c => enterClosing c r s
      | none => writerAsk { s with cap := { s.cap with state := .capturing } }
  | _ => s

/-! ## The close and the pending triggers (R145, R146) -/

/-- How many blocks ago a block began to fill, counted across the wrap. -/
def State.blocksAgo (s : State) (block : Word32) : Nat := (s.cap.fill - block).toNat

/-- The blocks of the ring older than a block. -/
def State.olderInRing (s : State) (block : Word32) : Nat :=
  (s.cap.ring.filter (fun b => decide (s.blocksAgo block < s.blocksAgo b.seq))).length

/-- The pending triggers within the new record's window become its secondaries, in arrival order (R146). -/
def joinPending (r : OpenRecord) : List PendingTrigger → State → State
  | [], s => s
  | t :: rest, s => joinPending r rest (if r.covers t.block then secondary t.source t.block r s else s)

/-- The entries beyond the new record's window stay pending. -/
def keepPending (r : OpenRecord) (ts : List PendingTrigger) : List PendingTrigger :=
  ts.filter (fun t => !r.covers t.block)

/-- The CAP takes its pending triggers one after another until one is granted a slot (R146). -/
def takePending : List PendingTrigger → State → State
  | [], s => s
  | t :: rest, s =>
    let s := openCapture t (min t.pre (s.olderInRing t.block)) { s with cap := { s.cap with waiting := rest } }
    match s.cap.record with
    | some r => joinPending r rest { s with cap := { s.cap with waiting := keepPending r rest } }
    | none => takePending rest s

/-- The record is CLOSED: the notice, then the pending triggers or IDLE (R145, R146). -/
def recordClosed (slot : Nat) (i : RecordInfo) (s : State) : State :=
  let s := s.setEntry slot { s.entry slot with state := .closed }
  let s := raise (.recordClosed i.number slot (i.close.getD .complete) i.blocks i.source i.isProtected) s
  takePending s.cap.waiting { s with cap := { s.cap with state := .idle, record := none } }

/-- The completion of the closing entry write (R145). -/
def closingEntryWritten (s : State) : State :=
  match s.store.port with
  | some (.dir ⟨slot, .closing⟩ i) => recordClosed slot i (State.setStored slot (.closed i) (portIdle s))
  | _ => s

/-! ## MARK (R135) -/

/-- The reply to an admitted MARK, from the state before and after the trigger (R135). -/
def markReply (s t : State) : ReplyStatus :=
  match s.cap.state with
  | .idle => if t.cap.record.isSome then .ok else .storeFull
  | .closing => if s.cap.waiting.length < 4 then .ok else .busy
  | .allocating | .capturing =>
    if s.cap.record.any (fun r => r.covers s.cap.fill) then .ok
    else if s.cap.waiting.length < 4 then .ok
    else .busy

/-- MARK. -/
def serveMark (_ : List Byte) (s : State) : Served :=
  if s.clp.working.admits .hostMark then
    let t := trigger .hostMark false s
    .reply (markReply s t) [] t
  else refuse .wrongState s

/-! ## The rows -/

/-- SAMPLE_BLOCK_SEAL. -/
def execSampleBlockSeal (s : State) : Host.Outcome State Fault Refusal := act sealBlock s

/-- MARK. -/
def execMark (tag : Byte) (payload : List Byte) (s : State) : Host.Outcome State Fault Refusal :=
  act (takeRequest .mark ⟨0x0F#8, tag, payload⟩ serveMark) s

/-- PAGE_WRITE_DONE. -/
def execPageWriteDone (verified : Bool) (s : State) : Host.Outcome State Fault Refusal := act (pageWriteDone verified) s

/-- RECLAIM_ERASE_DONE. -/
def execReclaimEraseDone (s : State) : Host.Outcome State Fault Refusal := act reclaimEraseDone s

/-- OPENING_ENTRY_WRITTEN. -/
def execOpeningEntryWritten (s : State) : Host.Outcome State Fault Refusal := act openingEntryWritten s

/-- CLOSING_ENTRY_WRITTEN. -/
def execClosingEntryWritten (s : State) : Host.Outcome State Fault Refusal := act closingEntryWritten s

end Sys2Proof.Machine
end

