-- ==== Sys2Proof/Machine/RecordStore.lean ====
section
/-! DEFINITION. The Record Store (chapter 9) outside captures: RECORD_LIST, RECORD_PROTECT, RECORD_ERASE, the directory
writes they ask, the host erase, the scrubber, and the configuration area writes of a commit (R190). -/
namespace Sys2Proof.Machine

/-! ## RECORD_LIST (R158, section 12.3) -/

/-- The state code of section 12.3. -/
def stateCode (st : SlotState) (i : RecordInfo) : Nat :=
  let c := (i.close.map CloseStatus.code).getD 0
  match st with
  | .free => 0
  | .erasing => 0
  | .capturing => 1
  | .closing => 2 + c
  | .closed => if i.damaged then 10 + c else 6 + c

/-- The fields (width, value) of one entry of RECORD_LIST. -/
def entryFields (slot : Nat) (st : SlotState) (i : RecordInfo) : List (Nat × Nat) :=
  [(32, i.number), (6, slot), (4, stateCode st i), (1, i.isProtected.toNat), (3, i.source.code), (32, i.time.toNat),
    (9, i.pre), (11, i.blocks), (24, i.mask.toNat), (16, i.overflow), (4, i.secondary.length)] ++
    i.secondary.flatMap (fun p => [(3, p.1.code), (10, p.2 - i.pre)])

/-- One entry of the directory that a list holds: slot, slot state, record. -/
structure Listed where
  slot : Nat
  state : SlotState
  info : RecordInfo
  deriving DecidableEq, Repr

/-- The record of a slot when its number is at or above the list start. -/
def State.listedAt (s : State) (start slot : Nat) : Option Listed :=
  (s.entry slot).record.bind (fun i => if start ≤ i.number then some ⟨slot, (s.entry slot).state, i⟩ else none)

/-- Insertion by rising record number. -/
def insertListed (x : Listed) : List Listed → List Listed
  | [] => [x]
  | y :: rest => if x.info.number ≤ y.info.number then x :: y :: rest else y :: insertListed x rest

/-- The records at or above the list start in ascending record number. -/
def State.listed (s : State) (start : Nat) : List Listed :=
  ((List.range 48).filterMap (s.listedAt start)).foldr insertListed []

/-- The payload of RECORD_LIST after the status byte. -/
def State.recordListContent (s : State) (start : Nat) : List Byte :=
  let all := s.listed start
  let some8 := all.take 8
  packFields ([(1, (decide (8 < all.length)).toNat), (4, some8.length), (3, 0)] ++
    some8.flatMap (fun x => entryFields x.slot x.state x.info))

/-- RECORD_LIST (R158). -/
def serveRecordList (p : List Byte) (s : State) : Served := .reply .ok (s.recordListContent (rd32 p 0)) s

/-! ## RECORD_PROTECT (R159, R160) -/

/-- The directory client asks for a write (R153). -/
def askDir (slot : Nat) (k : DirKind) (s : State) : State :=
  { s with store := { s.store with dirQueue := s.store.dirQueue ++ [⟨slot, k⟩] } }

/-- Set the protection in the working entry. -/
def setProtected (slot : Nat) (v : Bool) (s : State) : State := s.updRecord slot (fun i => { i with isProtected := v })

/-- RECORD_PROTECT with PROTECT (R159). -/
def serveRecordProtect (p : List Byte) (s : State) : Served :=
  match s.findRecord (rd32 p 0) with
  | none => refuse .noRecord s
  | some (slot, st, i) =>
    match st with
    | .closed => if i.isProtected then accept s else .hold (askDir slot .protect (setProtected slot true s))
    | .erasing | .capturing => accept (setProtected slot true s)
    | .closing | .free => refuse .wrongState s

/-- RECORD_PROTECT with UNPROTECT (R160). -/
def serveRecordUnprotect (p : List Byte) (s : State) : Served :=
  match s.findRecord (rd32 p 0) with
  | none => refuse .noRecord s
  | some (slot, st, i) =>
    match st with
    | .closed => if i.isProtected then .hold (askDir slot .unprotect s) else accept s
    | .erasing | .capturing | .closing | .free => refuse .wrongState s

/-- The held request at the head of the queue is answered OK (R179). -/
def answerHeld (s : State) : State :=
  match s.clp.held, s.clp.queue with
  | true, f :: _ => answer f .ok [] s
  | _, _ => s

/-- The effect of a directory write of a CLOSED record on the stored and on the working entry: an unprotect write clears the
protection there too (R160). -/
def dirWritten (w : DirWrite) (i : RecordInfo) (s : State) : State :=
  let t := State.setStored w.slot (.closed i) s
  match w.kind with
  | .unprotect => setProtected w.slot false t
  | .closing | .protect | .damaged => t

/-- The completion of a protect write (R159). -/
def protectWriteDone (s : State) : State :=
  match s.store.port with
  | some (.dir ⟨slot, .protect⟩ i) => answerHeld (dirWritten ⟨slot, .protect⟩ i (portIdle s))
  | _ => s

/-- The completion of an unprotect write (R160). -/
def unprotectWriteDone (s : State) : State :=
  match s.store.port with
  | some (.dir ⟨slot, .unprotect⟩ i) => answerHeld (dirWritten ⟨slot, .unprotect⟩ i (portIdle s))
  | _ => s

/-- The completion of a damaged write (R163). -/
def damagedWriteDone (s : State) : State :=
  match s.store.port with
  | some (.dir ⟨slot, .damaged⟩ i) => dirWritten ⟨slot, .damaged⟩ i (portIdle s)
  | _ => s

/-! ## RECORD_ERASE (R161) -/

/-- RECORD_ERASE. -/
def serveRecordErase (p : List Byte) (s : State) : Served :=
  let number := rd32 p 0
  match s.findRecord number with
  | none => refuse .noRecord s
  | some (slot, st, i) =>
    if s.store.hostErase.isSome then refuse .busy s
    else if st ≠ .closed then refuse .wrongState s
    else if i.isProtected then refuse .isProtected s
    else
      let t := s.setEntry slot ⟨.erasing, none⟩
      .reply .accepted []
        (slotGone slot number { t with store := { t.store with hostErase := some ⟨slot, number, true⟩ } })

/-- The completion of a host erase (R161). -/
def hostEraseDone (s : State) : State :=
  match s.store.port with
  | some (.hostErase slot) =>
    let s := (eraseSlot slot (portIdle s)).setEntry slot ⟨.free, none⟩
    match s.store.hostErase with
    | none => s
    | some h => raise (.eraseDone h.slot h.number) { s with store := { s.store with hostErase := none } }
  | _ => s

/-! ## The scrubber (R162, R163) -/

/-- A scrub request is due: every 2 s. -/
def State.scrubDue (s : State) : Bool := decide (400 ≤ s.store.scrubTicks)

/-- The scrub request starts a check, or is latched (R162). -/
def scrubRequest (s : State) : State :=
  if s.scrubDue then
    let s := { s with store := { s.store with scrubTicks := s.store.scrubTicks - 400 } }
    match s.store.check with
    | none => scrubStart 1 s
    | some _ => { s with store := { s.store with scrubLatch := true } }
  else s

/-- A page read that found its page check bad. -/
def ReadResult.isBad : ReadResult → Bool
  | .good => false
  | .bad _ => true

/-- The first bad page of a record not yet marked: flag, directory write, notice (R163). -/
def markDamaged (slot page : Nat) (i : RecordInfo) (s : State) : State :=
  if i.damaged then s
  else
    raise (.recordDamaged i.number slot page)
      (askDir slot .damaged (s.updRecord slot (fun i => { i with damaged := true })))

/-- The check reads on, or is completed and the index moves past its slot (R163). -/
def scrubOn (slot page blocks : Nat) (s : State) : State :=
  if page + 1 < pageCount blocks then { s with store := { s.store with check := some ⟨slot, page + 1, true⟩ } }
  else scrubEnd { s with store := { s.store with scrubIndex := (slot + 1) % 48 } }

/-- The completion of a scrub read (R163); a read no longer wanted is not used (R164). -/
def scrubPageReadDone (r : ReadResult) (s : State) : State :=
  match s.store.port with
  | some (.scrubRead slot page used) =>
    let s := portIdle s
    match used, (s.entry slot).record with
    | true, some i => scrubOn slot page i.blocks (if ReadResult.isBad r then markDamaged slot page i s else s)
    | _, _ => s
  | _ => s

/-! ## Configuration area writes (R190) -/

/-- The completion of an item write: the area and the image take the item, the next write is asked. From the first item
written the check no longer stands over the stored values (R191). -/
def configItemDone (n : Nat) (k : Commit) (s : State) : State :=
  { s with
    nv := { s.nv with area := ⟨Settings.copyItem n k.snapshot s.nv.area.values, none⟩ }
    clp := { s.clp with
      image := Settings.copyItem n k.snapshot s.clp.image
      commit := some { k with todo := k.todo.tail, ask := true } } }

/-- The completion of the check write: the commit ends (R190). -/
def configCheckDone (k : Commit) (s : State) : State :=
  raise (.commitDone k.listed)
    { s with
      nv := { s.nv with area := { s.nv.area with checkOver := some k.snapshot } }
      clp := { s.clp with imageValid := true, commit := none } }

/-- The completion of a configuration area write. -/
def configAreaWriteDone (s : State) : State :=
  match s.store.port, s.clp.commit with
  | some (.configItem n), some k => configItemDone n k (portIdle s)
  | some .configCheck, some k => configCheckDone k (portIdle s)
  | _, _ => s

/-! ## The rows -/

/-- RECORD_LIST. -/
def execRecordList (tag : Byte) (payload : List Byte) (s : State) : Host.Outcome State Fault Refusal :=
  act (takeRequest .recordList ⟨0x10#8, tag, payload⟩ serveRecordList) s

/-- RECORD_PROTECT with PROTECT. -/
def execRecordProtect (tag : Byte) (payload : List Byte) (s : State) : Host.Outcome State Fault Refusal :=
  act (takeRequest .recordProtect ⟨0x11#8, tag, payload⟩ serveRecordProtect) s

/-- RECORD_PROTECT with UNPROTECT. -/
def execRecordUnprotect (tag : Byte) (payload : List Byte) (s : State) : Host.Outcome State Fault Refusal :=
  act (takeRequest .recordUnprotect ⟨0x11#8, tag, payload⟩ serveRecordUnprotect) s

/-- RECORD_ERASE. -/
def execRecordErase (tag : Byte) (payload : List Byte) (s : State) : Host.Outcome State Fault Refusal :=
  act (takeRequest .recordErase ⟨0x12#8, tag, payload⟩ serveRecordErase) s

/-- PROTECT_WRITE_DONE. -/
def execProtectWriteDone (s : State) : Host.Outcome State Fault Refusal := act protectWriteDone s

/-- UNPROTECT_WRITE_DONE. -/
def execUnprotectWriteDone (s : State) : Host.Outcome State Fault Refusal := act unprotectWriteDone s

/-- DAMAGED_WRITE_DONE. -/
def execDamagedWriteDone (s : State) : Host.Outcome State Fault Refusal := act damagedWriteDone s

/-- HOST_ERASE_DONE. -/
def execHostEraseDone (s : State) : Host.Outcome State Fault Refusal := act hostEraseDone s

/-- SCRUB_REQUEST. -/
def execScrubRequest (s : State) : Host.Outcome State Fault Refusal := act scrubRequest s

/-- SCRUB_PAGE_READ_DONE. -/
def execScrubPageReadDone (r : ReadResult) (s : State) : Host.Outcome State Fault Refusal := act (scrubPageReadDone r) s

/-- CONFIG_AREA_WRITE_DONE. -/
def execConfigAreaWriteDone (s : State) : Host.Outcome State Fault Refusal := act configAreaWriteDone s

end Sys2Proof.Machine
end

