-- ==== Sys2Proof/Machine/Power.lean ====
section
/-! DEFINITION. Power-on, loss of power and RESTART: the start-up scan (R166), the load of the stored set (R189), what
RESTART completes first (R148, R165, R192), and TX_FRAME_END, at which a RESTART reply ends (R181). -/
namespace Sys2Proof.Machine

/-! ## The start-up scan (R166) -/

/-- The blocks held in the pages of a slot from `page` upward until the first page that is bad or empty (R166). -/
def countPages (bad : List (Nat × Nat)) (pages : List (Nat × Page)) (slot : Nat) : Nat → Nat → Nat
  | 0, _ => 0
  | left + 1, page =>
    match pagesRead pages (pageAddr slot page) with
    | none => 0
    | some p =>
      if p.check = false ∨ p.blocks = [] ∨ (slot, page) ∈ bad then 0
      else p.blocks.length + countPages bad pages slot left (page + 1)

/-- A record that the scan or RESTART closes (R165, R166). -/
def RecordInfo.interrupted (blocks : Nat) (i : RecordInfo) : RecordInfo :=
  { i with close := some .interrupted, blocks := blocks, damaged := false }

/-- The stored entry of a slot after its treatment by the scan. -/
def scanEntry (f : ScanFaults) (pages : List (Nat × Page)) (slot : Nat) (e : StoredEntry) : StoredEntry :=
  if f.badEntries.contains slot then .free
  else
    match e with
    | .free => .free
    | .erasing => .free
    | .badCheck => .free
    | .closed r => .closed r
    | .capturing r => .closed (r.interrupted (countPages f.badPages pages slot 320 0))

/-- The scan erases the slot (R166). -/
def scanErases (f : ScanFaults) (slot : Nat) (e : StoredEntry) : Bool :=
  f.badEntries.contains slot || e == .erasing || e == .badCheck

/-- The pages after the slots that the scan erases. -/
def scanPages (f : ScanFaults) (stored : List StoredEntry) (pages : List (Nat × Page)) : List (Nat × Page) :=
  stored.zipIdx.foldl (fun ps e => if scanErases f e.2 e.1 then pagesErase e.2 ps else ps) pages

/-- The working entry that a stored entry gives after the scan. -/
def workingEntry : StoredEntry → DirEntry
  | .closed r => ⟨.closed, some r⟩
  | .free => ⟨.free, none⟩
  | .erasing => ⟨.free, none⟩
  | .badCheck => ⟨.free, none⟩
  | .capturing r => ⟨.closed, some r⟩

/-- The memory after the scan (R166). -/
def scanStore (f : ScanFaults) (nv : NonVolatile) : NonVolatile :=
  { nv with
    stored := nv.stored.zipIdx.map (fun e => scanEntry f nv.pages e.2 e.1)
    pages := scanPages f nv.stored nv.pages }

/-- The highest record number of a directory, 0 when it holds none. -/
def highestNumber (dir : List DirEntry) : Nat := dir.foldl (fun n e => max n ((e.record.map (fun r => r.number)).getD 0)) 0

/-! ## The load (R189) -/

/-- What the load finds wrong with the configuration area; with both faults the cause is BAD_CHECK (log 12). -/
def loadFault (f : ScanFaults) (a : ConfigArea) : Option DefaultCause :=
  if f.badSet = true ∨ a.checkOver ≠ some a.values then some .badCheck
  else (Settings.firstBad a.values).map (fun n => .outOfRange n)

/-- The scan, the load and the reset values (R17, R44, R60, R82, R97, R114, R129, R147, R166, R176, R189, R193). `next` is
the least next record number (R152). -/
def bootFrom (f : ScanFaults) (nv : NonVolatile) (next : Nat) (s : State) : State :=
  let nv := scanStore f nv
  let dir := nv.stored.map workingEntry
  let n := max next (highestNumber dir + 1)
  match loadFault f nv.area with
  | none => State.boot s.rom nv dir n nv.area.values nv.area.values true [] s.pending
  | some c => State.boot s.rom nv dir n Config.defaults Config.defaults false [⟨0, .configDefaulted c⟩] s.pending

/-! ## Loss of power (R149, R191) -/

/-- What a cut-short operation leaves in the memory (R149; log 10). -/
def cutOperation (c : CutShort) (op : PortOp) (nv : NonVolatile) : NonVolatile :=
  match c, op with
  | .untouched, _ => nv
  | .torn, .page slot page bs => { nv with pages := pagesWrite (pageAddr slot page) ⟨bs, false⟩ nv.pages }
  | .torn, .opening slot _ => { nv with stored := nv.stored.set slot .badCheck }
  | .torn, .dir w _ => { nv with stored := nv.stored.set w.slot .badCheck }
  | .torn, .configItem _ => { nv with area := { nv.area with checkOver := none } }
  | .torn, .configCheck => { nv with area := { nv.area with checkOver := none } }
  | .torn, .reclaimErase slot => { nv with pages := pagesErase slot nv.pages }
  | .torn, .hostErase slot => { nv with pages := pagesErase slot nv.pages }
  | .torn, .streamRead .. => nv
  | .torn, .scrubRead .. => nv

/-- The memory after loss of power. -/
def nvAfterLoss (c : CutShort) (s : State) : NonVolatile :=
  match s.store.port with
  | none => s.nv
  | some op => cutOperation c op s.nv

/-- Loss of power: the operation in progress is cut short, the part stops, its outputs go off. -/
def powerLoss (c : CutShort) (s : State) : State :=
  if s.powered then
    { s with
      powered := false
      nv := nvAfterLoss c s
      flm := { s.flm with controlActive := false }
      csl := { s.csl with line := .idle }
      store := { s.store with port := none }
      clp := { s.clp with tx := none } }
  else s

/-- Power-on (R17). A power-on reset of a part that has power cuts its operation short first (log 9). -/
def powerOn (f : ScanFaults) (s : State) : State :=
  bootFrom f (if s.powered then nvAfterLoss .torn s else s.nv) 1 s

/-! ## RESTART (R148, R165, R192) -/

/-- The operation in progress runs to its end (R165 step 1): its effect on the memory and, for a verified page of the
capture and an unprotect write, on the working entry. What a page read brings is not used, a bad page of a scrub check
included (log 27). -/
def finishOperation (verified : Bool) (s : State) : State :=
  match s.store.port with
  | none => s
  | some (.page slot page bs) =>
    let s := storePage slot page bs verified (portIdle s)
    if verified then countBlocks slot bs.length s else s
  | some (.reclaimErase slot) => eraseSlot slot (portIdle s)
  | some (.hostErase slot) => eraseSlot slot (portIdle s)
  | some (.opening slot i) => State.setStored slot (.capturing i) (portIdle s)
  | some (.dir w i) => dirWritten w i (portIdle s)
  | some (.configItem n) =>
    match s.clp.commit with
    | none => portIdle s
    | some k => configItemDone n k (portIdle s)
  | some .configCheck =>
    match s.clp.commit with
    | none => portIdle s
    | some k => configCheckDone k (portIdle s)
  | some (.streamRead ..) => portIdle s
  | some (.scrubRead ..) => portIdle s

/-- One waiting directory write is made (R165 step 1). -/
def makeDirWrite (s : State) (w : DirWrite) : State :=
  match (s.entry w.slot).record with
  | none => s
  | some i => dirWritten w (dirContent w i) s

/-- The capture's opening entry has been written or is being written (R148). -/
def State.openingBegun (s : State) : Bool :=
  match s.cap.state, s.store.port with
  | .allocating, some (.opening ..) => true
  | .capturing, _ => true
  | _, _ => false

/-- The open record whose opening entry is written is closed INTERRUPTED (R148, R165 step 2). -/
def interruptRecord (slot : Nat) (s : State) : State :=
  match (s.entry slot).record with
  | none => s
  | some i => State.setStored slot (.closed { i with close := some .interrupted }) s

/-- The end of the open record: INTERRUPTED, or, with its opening entry not begun, no record and the slot erased where
the reclaim had been decided (R148, R165 steps 2 and 3). A capture in CLOSING has its entry written in step 1. -/
def endCapture (begun : Bool) (s : State) : State :=
  match s.cap.record with
  | none => s
  | some r =>
    if s.cap.state = .closing then s
    else if begun then interruptRecord r.slot s
    else if (s.entry r.slot).state = .erasing then eraseSlot r.slot s
    else s

/-- A host erase decided and not done is carried out (R165 step 3). -/
def endHostErase (s : State) : State :=
  match s.store.hostErase with
  | none => s
  | some h => eraseSlot h.slot s

/-- The remaining writes of a commit in hand, the check included (R192 step 3). -/
def endCommit (s : State) : State :=
  match s.clp.commit with
  | none => s
  | some k =>
    { s with nv := { s.nv with area :=
      { values := k.todo.foldl (fun v n => Settings.copyItem n k.snapshot v) s.nv.area.values
        checkOver := some k.snapshot } } }

/-- The part restarts (R165, R192): the store's work, the scan, the load, the reset values; the next record number
continues (R152). -/
def partRestart (r : RestartFacts) (s : State) : State :=
  let begun := s.openingBegun
  let s := finishOperation r.pageVerified s
  let s := s.store.dirQueue.foldl makeDirWrite s
  let s := endCommit (endHostErase (endCapture begun s))
  bootFrom r.faults s.nv s.store.nextNumber s

/-! ## The end of a frame on the TX line (R181) -/

/-- The OK reply to RESTART. -/
def Reply.isRestart (r : Reply) : Bool := r.kind == 0x96#8 && r.status == .ok

/-- A frame ends on the line: the part restarts, the stream goes on, or the line falls idle. -/
def txFrameEnd (r : RestartFacts) (s : State) : State :=
  match s.clp.tx with
  | none => s
  | some f =>
    let s := { s with clp := { s.clp with tx := none } }
    match f with
    | .reply p => if p.isRestart then partRestart r s else s
    | .stream x => streamFrameSent x s
    | .notice _ => s
    | .report _ => s

/-! ## The rows -/

/-- POWER_ON: it acts with and without power (log 9). -/
def execPowerOn (f : ScanFaults) (s : State) : Host.Outcome State Fault Refusal := .next (powerOn f s)

/-- POWER_LOSS. -/
def execPowerLoss (c : CutShort) (s : State) : Host.Outcome State Fault Refusal := .next (powerLoss c s)

/-- TX_FRAME_END. -/
def execTxFrameEnd (r : RestartFacts) (s : State) : Host.Outcome State Fault Refusal := act (txFrameEnd r) s

end Sys2Proof.Machine
end

