-- ==== Sys2Proof/Machine/Dispatch.lean ====
section
/-! DEFINITION. The meaning of each command, one arm per row of the table of operations and events. -/
namespace Sys2Proof.Machine

def exec (i : Instr) (s : State) : Host.Outcome State Fault Refusal :=
  match i with
  | .powerOn f => Sys2Proof.Machine.execPowerOn f s
  | .fieldCycleStart => Sys2Proof.Machine.execFieldCycleStart s
  | .fieldCycleDecision d => Sys2Proof.Machine.execFieldCycleDecision d s
  | .fieldLinkUp d => Sys2Proof.Machine.execFieldLinkUp d s
  | .fieldLinkLost d => Sys2Proof.Machine.execFieldLinkLost d s
  | .shortfallEntry t d => Sys2Proof.Machine.execShortfallEntry t d s
  | .shortfallClear t d => Sys2Proof.Machine.execShortfallClear t d s
  | .dbFaultLatch t d => Sys2Proof.Machine.execDbFaultLatch t d s
  | .supervisionWindowEnd t d => Sys2Proof.Machine.execSupervisionWindowEnd t d s
  | .channelFaultLatch t d => Sys2Proof.Machine.execChannelFaultLatch t d s
  | .axleSlideConfirm a d => Sys2Proof.Machine.execAxleSlideConfirm a d s
  | .axleRecoveryEnd a d => Sys2Proof.Machine.execAxleRecoveryEnd a d s
  | .axleExclude a d => Sys2Proof.Machine.execAxleExclude a d s
  | .axleReturn a d => Sys2Proof.Machine.execAxleReturn a d s
  | .forcedReapply t d => Sys2Proof.Machine.execForcedReapply t d s
  | .reapplyHoldEnd t d => Sys2Proof.Machine.execReapplyHoldEnd t d s
  | .settleEnd t d => Sys2Proof.Machine.execSettleEnd t d s
  | .sampleBlockSeal => Sys2Proof.Machine.execSampleBlockSeal s
  | .consistCycleStart => Sys2Proof.Machine.execConsistCycleStart s
  | .exchangeDecision taken => Sys2Proof.Machine.execExchangeDecision taken s
  | .unitLost ident taken => Sys2Proof.Machine.execUnitLost ident taken s
  | .unitJoined ident taken => Sys2Proof.Machine.execUnitJoined ident taken s
  | .rollDecision taken => Sys2Proof.Machine.execRollDecision taken s
  | .enrolDecision taken => Sys2Proof.Machine.execEnrolDecision taken s
  | .enrolExclude taken => Sys2Proof.Machine.execEnrolExclude taken s
  | .releaseTransmit => Sys2Proof.Machine.execReleaseTransmit s
  | .leadConflict rx => Sys2Proof.Machine.execLeadConflict rx s
  | .shareAccept rx => Sys2Proof.Machine.execShareAccept rx s
  | .leadSilent => Sys2Proof.Machine.execLeadSilent s
  | .rollReceive rx => Sys2Proof.Machine.execRollReceive rx s
  | .enrolReceive rx => Sys2Proof.Machine.execEnrolReceive rx s
  | .releaseReceive rx => Sys2Proof.Machine.execReleaseReceive rx s
  | .controlFrameAbandoned chars => Sys2Proof.Machine.execControlFrameAbandoned chars s
  | .requestReceived chars => Sys2Proof.Machine.execRequestReceived chars s
  | .requestUnknownKind kind tag payload => Sys2Proof.Machine.execRequestUnknownKind kind tag payload s
  | .identify tag payload => Sys2Proof.Machine.execIdentify tag payload s
  | .status tag payload => Sys2Proof.Machine.execStatus tag payload s
  | .configRead tag payload => Sys2Proof.Machine.execConfigRead tag payload s
  | .configWrite tag payload => Sys2Proof.Machine.execConfigWrite tag payload s
  | .configWriteUnitIdentity tag payload => Sys2Proof.Machine.execConfigWriteUnitIdentity tag payload s
  | .configWriteSlotMap tag payload => Sys2Proof.Machine.execConfigWriteSlotMap tag payload s
  | .configWriteDbCurve tag payload => Sys2Proof.Machine.execConfigWriteDbCurve tag payload s
  | .configWriteTriggerEnable tag payload => Sys2Proof.Machine.execConfigWriteTriggerEnable tag payload s
  | .configWriteRecordChannels tag payload => Sys2Proof.Machine.execConfigWriteRecordChannels tag payload s
  | .configWriteReportInterval tag payload => Sys2Proof.Machine.execConfigWriteReportInterval tag payload s
  | .configCommit tag payload => Sys2Proof.Machine.execConfigCommit tag payload s
  | .configAreaWriteDone => Sys2Proof.Machine.execConfigAreaWriteDone s
  | .setRoleOffline tag payload => Sys2Proof.Machine.execSetRoleOffline tag payload s
  | .setRoleLead tag payload => Sys2Proof.Machine.execSetRoleLead tag payload s
  | .setRoleTrail tag payload => Sys2Proof.Machine.execSetRoleTrail tag payload s
  | .rollCall tag payload => Sys2Proof.Machine.execRollCall tag payload s
  | .rosterRead tag payload => Sys2Proof.Machine.execRosterRead tag payload s
  | .rosterRelease tag payload => Sys2Proof.Machine.execRosterRelease tag payload s
  | .dynamicEnable tag payload => Sys2Proof.Machine.execDynamicEnable tag payload s
  | .penaltySet tag payload => Sys2Proof.Machine.execPenaltySet tag payload s
  | .penaltyClear tag payload => Sys2Proof.Machine.execPenaltyClear tag payload s
  | .emergencyApply tag payload => Sys2Proof.Machine.execEmergencyApply tag payload s
  | .emergencyReset tag payload => Sys2Proof.Machine.execEmergencyReset tag payload s
  | .faultClearChannel tag payload => Sys2Proof.Machine.execFaultClearChannel tag payload s
  | .faultClearDb tag payload => Sys2Proof.Machine.execFaultClearDb tag payload s
  | .faultClearBoth tag payload => Sys2Proof.Machine.execFaultClearBoth tag payload s
  | .mark tag payload => Sys2Proof.Machine.execMark tag payload s
  | .recordList tag payload => Sys2Proof.Machine.execRecordList tag payload s
  | .recordProtect tag payload => Sys2Proof.Machine.execRecordProtect tag payload s
  | .recordUnprotect tag payload => Sys2Proof.Machine.execRecordUnprotect tag payload s
  | .recordErase tag payload => Sys2Proof.Machine.execRecordErase tag payload s
  | .streamOpen tag payload => Sys2Proof.Machine.execStreamOpen tag payload s
  | .streamAck tag payload => Sys2Proof.Machine.execStreamAck tag payload s
  | .streamAbort tag payload => Sys2Proof.Machine.execStreamAbort tag payload s
  | .restart tag payload => Sys2Proof.Machine.execRestart tag payload s
  | .txFrameEnd r => Sys2Proof.Machine.execTxFrameEnd r s
  | .reportDue => Sys2Proof.Machine.execReportDue s
  | .pageWriteDone verified => Sys2Proof.Machine.execPageWriteDone verified s
  | .reclaimEraseDone => Sys2Proof.Machine.execReclaimEraseDone s
  | .openingEntryWritten => Sys2Proof.Machine.execOpeningEntryWritten s
  | .closingEntryWritten => Sys2Proof.Machine.execClosingEntryWritten s
  | .protectWriteDone => Sys2Proof.Machine.execProtectWriteDone s
  | .unprotectWriteDone => Sys2Proof.Machine.execUnprotectWriteDone s
  | .damagedWriteDone => Sys2Proof.Machine.execDamagedWriteDone s
  | .hostEraseDone => Sys2Proof.Machine.execHostEraseDone s
  | .streamPageReadDone n r => Sys2Proof.Machine.execStreamPageReadDone n r s
  | .scrubRequest => Sys2Proof.Machine.execScrubRequest s
  | .scrubPageReadDone r => Sys2Proof.Machine.execScrubPageReadDone r s
  | .powerLoss c => Sys2Proof.Machine.execPowerLoss c s
  | .consistFrameSent => Sys2Proof.Machine.execConsistFrameSent s
  | .outboundFrameSent => Sys2Proof.Machine.execOutboundFrameSent s

end Sys2Proof.Machine
end

