-- ==== Sys2Proof/WellFormed.lean ====
section
/-! DEFINITION. Well-formed commands: the operands lie in the ranges that the spec's frames allow, and a request row
carries a payload that its row names. `exec` is total on every command; a statement that needs an operand in range
says so. -/
namespace Sys2Proof

/-- A payload fits a control link frame: length byte at most 250, of which kind and tag are two (section 12.2). -/
def payloadFits (p : List Byte) : Bool := p.length ≤ 248

/-- An inbound field frame has slots 0 to 31 (section 12.4). -/
def Inbound.wf : Inbound → Bool
  | .nothing => true
  | .late => true
  | .lineIdle => true
  | .frame _ slots _ => slots.length == 32

/-- The operand of an event at a decision. -/
def decisionWf : Option CycleEnd → Bool
  | none => true
  | some d => d.rx.wf

/-- Slots and pages named by the scan's faults exist (R149). -/
def ScanFaults.wf (f : ScanFaults) : Bool :=
  f.badEntries.all (· < 48) && f.badPages.all (fun p => p.1 < 48 && p.2 < 320)

/-- A read gives at most the 4 blocks of a page (R149). -/
def ReadResult.wf : ReadResult → Bool
  | .good => true
  | .bad bs => bs.length ≤ 4

/-- The unit identities 1 to 4,294,967,294 (scope file, section 5.4). -/
def identityWf (n : Nat) : Bool := 1 ≤ n && n ≤ 4294967294

/-- A payload whose first byte is the item number `n` (R197). -/
def itemPayload (n : Nat) (p : List Byte) : Bool := payloadFits p && p.head? == some (BitVec.ofNat 8 n)

/-- The check of a command's operands. -/
def Instr.wf : Instr → Bool
  | .powerOn f => f.wf
  | .fieldCycleStart => true
  | .fieldCycleDecision d => d.rx.wf
  | .fieldLinkUp d => d.rx.wf
  | .fieldLinkLost d => d.rx.wf
  | .shortfallEntry _ d => decisionWf d
  | .shortfallClear _ d => decisionWf d
  | .dbFaultLatch _ d => decisionWf d
  | .supervisionWindowEnd _ d => decisionWf d
  | .channelFaultLatch _ d => decisionWf d
  | .axleSlideConfirm _ d => decisionWf d
  | .axleRecoveryEnd _ d => decisionWf d
  | .axleExclude _ d => decisionWf d
  | .axleReturn _ d => decisionWf d
  | .forcedReapply _ d => decisionWf d
  | .reapplyHoldEnd _ d => decisionWf d
  | .settleEnd _ d => decisionWf d
  | .sampleBlockSeal => true
  | .consistCycleStart => true
  | .exchangeDecision _ => true
  | .unitLost i _ => identityWf i
  | .unitJoined i _ => identityWf i
  | .rollDecision _ => true
  | .enrolDecision _ => true
  | .enrolExclude _ => true
  | .releaseTransmit => true
  | .leadConflict _ => true
  | .shareAccept _ => true
  | .leadSilent => true
  | .rollReceive _ => true
  | .enrolReceive _ => true
  | .releaseReceive _ => true
  | .controlFrameAbandoned cs => cs != []
  | .requestReceived cs => cs != []
  | .requestUnknownKind k _ p => payloadFits p && !(1 ≤ k.toNat && k.toNat ≤ 22)
  | .identify _ p => payloadFits p
  | .status _ p => payloadFits p
  | .configRead _ p => payloadFits p
  | .configWrite _ p => payloadFits p
  | .configWriteUnitIdentity _ p => itemPayload 1 p
  | .configWriteSlotMap _ p => itemPayload 2 p
  | .configWriteDbCurve _ p => itemPayload 14 p
  | .configWriteTriggerEnable _ p => itemPayload 26 p
  | .configWriteRecordChannels _ p => itemPayload 27 p
  | .configWriteReportInterval _ p => itemPayload 29 p
  | .configCommit _ p => payloadFits p
  | .configAreaWriteDone => true
  | .setRoleOffline _ p => payloadFits p && p != [1#8] && p != [2#8]
  | .setRoleLead _ p => p == [1#8]
  | .setRoleTrail _ p => p == [2#8]
  | .rollCall _ p => payloadFits p
  | .rosterRead _ p => payloadFits p
  | .rosterRelease _ p => payloadFits p
  | .dynamicEnable _ p => payloadFits p
  | .penaltySet _ p => payloadFits p && p != []
  | .penaltyClear _ p => p == []
  | .emergencyApply _ p => payloadFits p
  | .emergencyReset _ p => payloadFits p
  | .faultClearChannel _ p => payloadFits p && p[1]? != some 1#8 && p[1]? != some 2#8
  | .faultClearDb _ p => payloadFits p && p[1]? == some 1#8
  | .faultClearBoth _ p => payloadFits p && p[1]? == some 2#8
  | .mark _ p => payloadFits p
  | .recordList _ p => payloadFits p
  | .recordProtect _ p => payloadFits p && p[4]? != some 1#8
  | .recordUnprotect _ p => payloadFits p && p[4]? == some 1#8
  | .recordErase _ p => payloadFits p
  | .streamOpen _ p => payloadFits p
  | .streamAck _ p => payloadFits p
  | .streamAbort _ p => payloadFits p
  | .restart _ p => payloadFits p
  | .txFrameEnd r => r.faults.wf
  | .reportDue => true
  | .pageWriteDone _ => true
  | .reclaimEraseDone => true
  | .openingEntryWritten => true
  | .closingEntryWritten => true
  | .protectWriteDone => true
  | .unprotectWriteDone => true
  | .damagedWriteDone => true
  | .hostEraseDone => true
  | .streamPageReadDone _ r => r.wf
  | .scrubRequest => true
  | .scrubPageReadDone r => r.wf
  | .powerLoss _ => true
  | .consistFrameSent => true
  | .outboundFrameSent => true

end Sys2Proof
end

