-- ==== Sys2Proof/Safety.lean ====
section
/-! DEFINITION. What the statements speak of: the invariants, the frames, and the request that a request row carries. -/
namespace Sys2Proof.Machine

/-! ## Invariants -/

/-- A channel never drives its apply and release valves on together (R50). -/
def Tpc.oneDriver (c : Tpc) : Prop := ¬(c.apply = true ∧ c.release = true)

/-- Neither truck's valves are on together. -/
def State.valvesExclusive (s : State) : Prop := s.tpc.t1.oneDriver ∧ s.tpc.t2.oneDriver

/-- The pages of the record store stand in their canonical form. -/
def State.pagesCanonical (s : State) : Prop := Memory.wf s.nv.pages = true

/-- Four bounded lists hold no more than the manual gives them: 4 requests (R179), 16 notices (R182), 4 pending triggers
(R141), 512 sample blocks (R133). -/
def State.listsBounded (s : State) : Prop :=
  s.clp.queue.length ≤ 4 ∧ s.clp.notices.length ≤ 16 ∧ s.cap.waiting.length ≤ 4 ∧ s.cap.ring.length ≤ 512

/-! ## Frames -/

/-- Supply, ROM values, time base and command queue are as before. -/
def sameBase (s t : State) : Prop :=
  t.powered = s.powered ∧ t.rom = s.rom ∧ t.time = s.time ∧ t.begun = s.begun ∧ t.pending = s.pending

/-- FLM, BLE, TPC and AM are as before. -/
def sameBraking (s t : State) : Prop := t.flm = s.flm ∧ t.ble = s.ble ∧ t.tpc = s.tpc ∧ t.am = s.am

/-- CLP is as before but for the notice queue and the lost-notice count. -/
def sameLinkButNotices (s t : State) : Prop :=
  t.clp = { s.clp with notices := t.clp.notices, lostNotices := t.clp.lostNotices }

/-- A command's effect `t` on everything, before the idle store port and TX line take what waits. -/
def effect (c : Instr) (s t : State) : Prop := exec c s = .next (settle t)

/-! ## Requests as commands -/

/-- The characters of a control link frame, each with its stop bit at mark and no gap. -/
def cleanChars (bs : List Byte) : List RxChar := bs.map (fun b => ⟨b, true, false⟩)

/-- What the receiver makes of characters from hunting on. -/
def hunt (cs : List RxChar) : Received := receive (cs.length + 1) cs

/-- What the receiver makes of characters, with one frame more abandoned before them. -/
def abandonedThen (r : Received) : Received := { r with bad := r.bad + 1 }

/-- The truck that an axle belongs to. -/
def Axle.truck : Axle → Truck
  | .a1 | .a2 | .a3 => .t1
  | .a4 | .a5 | .a6 => .t2

/-- The row and the frame of a request command. -/
def requestOf : Instr → Option (ReqRow × ReqFrame)
  | .requestUnknownKind k t p => some (.unknownKind, ⟨k, t, p⟩)
  | .identify t p => some (.identify, ⟨0x01#8, t, p⟩)
  | .status t p => some (.status, ⟨0x02#8, t, p⟩)
  | .configRead t p => some (.configRead, ⟨0x03#8, t, p⟩)
  | .configWrite t p => some (.configWrite, ⟨0x04#8, t, p⟩)
  | .configWriteUnitIdentity t p => some (.writeUnitIdentity, ⟨0x04#8, t, p⟩)
  | .configWriteSlotMap t p => some (.writeSlotMap, ⟨0x04#8, t, p⟩)
  | .configWriteDbCurve t p => some (.writeDbCurve, ⟨0x04#8, t, p⟩)
  | .configWriteTriggerEnable t p => some (.writeTriggerEnable, ⟨0x04#8, t, p⟩)
  | .configWriteRecordChannels t p => some (.writeRecordChannels, ⟨0x04#8, t, p⟩)
  | .configWriteReportInterval t p => some (.writeReportInterval, ⟨0x04#8, t, p⟩)
  | .configCommit t p => some (.configCommit, ⟨0x05#8, t, p⟩)
  | .setRoleOffline t p => some (.setRoleOffline, ⟨0x06#8, t, p⟩)
  | .setRoleLead t p => some (.setRoleLead, ⟨0x06#8, t, p⟩)
  | .setRoleTrail t p => some (.setRoleTrail, ⟨0x06#8, t, p⟩)
  | .rollCall t p => some (.rollCall, ⟨0x07#8, t, p⟩)
  | .rosterRead t p => some (.rosterRead, ⟨0x08#8, t, p⟩)
  | .rosterRelease t p => some (.rosterRelease, ⟨0x09#8, t, p⟩)
  | .dynamicEnable t p => some (.dynamicEnable, ⟨0x0A#8, t, p⟩)
  | .penaltySet t p => some (.penaltySet, ⟨0x0B#8, t, p⟩)
  | .penaltyClear t p => some (.penaltyClear, ⟨0x0B#8, t, p⟩)
  | .emergencyApply t p => some (.emergencyApply, ⟨0x0C#8, t, p⟩)
  | .emergencyReset t p => some (.emergencyReset, ⟨0x0D#8, t, p⟩)
  | .faultClearChannel t p => some (.faultClearChannel, ⟨0x0E#8, t, p⟩)
  | .faultClearDb t p => some (.faultClearDb, ⟨0x0E#8, t, p⟩)
  | .faultClearBoth t p => some (.faultClearBoth, ⟨0x0E#8, t, p⟩)
  | .mark t p => some (.mark, ⟨0x0F#8, t, p⟩)
  | .recordList t p => some (.recordList, ⟨0x10#8, t, p⟩)
  | .recordProtect t p => some (.recordProtect, ⟨0x11#8, t, p⟩)
  | .recordUnprotect t p => some (.recordUnprotect, ⟨0x11#8, t, p⟩)
  | .recordErase t p => some (.recordErase, ⟨0x12#8, t, p⟩)
  | .streamOpen t p => some (.streamOpen, ⟨0x13#8, t, p⟩)
  | .streamAck t p => some (.streamAck, ⟨0x14#8, t, p⟩)
  | .streamAbort t p => some (.streamAbort, ⟨0x15#8, t, p⟩)
  | .restart t p => some (.restart, ⟨0x16#8, t, p⟩)
  | _ => none

/-- A request can be taken: the part has power, and the request heads the queue or arrives on an empty one with the reply
slot empty (R179). -/
def State.ready (s : State) (f : ReqFrame) : Prop := s.powered = true ∧ s.takeable f = true

/-- The command `c` takes request `f` and answers it with a status and a payload; but for the reply and the queue the
state is `t`. -/
def replies (c : Instr) (s : State) (f : ReqFrame) (st : ReplyStatus) (payload : List Byte) (t : State) : Prop :=
  effect c s (answer f st payload t)

/-- The command `c` takes a request and holds it at the head of the queue; but for the hold the state is `t`. -/
def holds (c : Instr) (s t : State) : Prop := effect c s { t with clp := { t.clp with held := true } }

end Sys2Proof.Machine
end

