-- ==== Sys2Proof/Certificates/Slice0/Obligations.lean ====
section
/-! DEFINITION. The statements for the provers. Each speaks of the commands through `effect c s t`: exec answers a next state,
`t` after the idle store port and TX line have taken what waits (SettleKeeps says what that leaves). A result written as an
update of `s` is its own frame: every field not named is as before. -/
section
open Sys2Proof Sys2Proof.Machine

/-! ## The machine as a whole -/

/-- A step runs the command at the front of the queue on the state with the queue's rest. -/
def Obligations.StepRunsFrontCommand : Prop :=
  ∀ (c : Instr) (rest : List Instr) (s : State),
    s.pending = c :: rest → step s = exec c { s with pending := rest }

/-- On an empty queue the block idles (the model's choice, log 2), and without power every command but POWER_ON leaves the state
as it is (log 9). -/
def Obligations.StepOtherwiseKeepsState : Prop :=
  (∀ s : State, s.pending = [] → step s = .next s) ∧
  (∀ (c : Instr) (s : State), s.powered = false → (∀ f, c ≠ .powerOn f) → exec c s = .next s)

/-- After a command the store port and then the TX line take what waits, once the first field cycle has begun (log 32). That
leaves all else: time, FLM, BLE, TPC, AM, ES, CSL, the pages and the configuration area, the ring and counts of the CAP, the open
record but for the writer's next block, the working directory, the next record number, the scrubber's index, timer, latch and
place, the host erase but for its ask, the streams but for their asks and buffers, the queue and the settings of the CLP, the
commit but for its ask. A stored entry stays as it is or goes ERASING. -/
def Obligations.SettleKeeps : Prop :=
  ∀ s : State,
    let t := settle s
    (t = if s.powered = true ∧ s.begun = true then txChoose (portGrant s) else s) ∧
      sameBase s t ∧ sameBraking s t ∧ t.es = s.es ∧ t.csl = s.csl ∧ t.nv.pages = s.nv.pages ∧ t.nv.area = s.nv.area ∧
      (∀ slot : Nat, t.nv.stored[slot]? = s.nv.stored[slot]? ∨ t.nv.stored[slot]? = some StoredEntry.erasing) ∧
      { t.cap with record := s.cap.record } = s.cap ∧
      t.cap.record.map (fun r => { r with copied := 0 }) = s.cap.record.map (fun r => { r with copied := 0 }) ∧
      t.store =
        { s.store with port := t.store.port, last := t.store.last, writer := t.store.writer, dirQueue := t.store.dirQueue,
                       check := t.store.check, hostErase := t.store.hostErase } ∧
      (t.store.writer = s.store.writer ∨ t.store.writer = none) ∧
      (t.store.dirQueue = s.store.dirQueue ∨ t.store.dirQueue = s.store.dirQueue.tail) ∧
      t.store.check.map (fun k => { k with ask := false }) = s.store.check.map (fun k => { k with ask := false }) ∧
      t.store.hostErase.map (fun h => { h with ask := false }) = s.store.hostErase.map (fun h => { h with ask := false }) ∧
      (∀ n, t.rdu.get n = { s.rdu.get n with ask := (t.rdu.get n).ask, buffer := (t.rdu.get n).buffer }) ∧
      t.clp =
        { s.clp with tx := t.clp.tx, replySlot := t.clp.replySlot, notices := t.clp.notices, reportSlot := t.clp.reportSlot,
                     lastStream := t.clp.lastStream, commit := t.clp.commit } ∧
      t.clp.commit.map (fun k => { k with ask := false }) = s.clp.commit.map (fun k => { k with ask := false })

/-- A notice joins the queue or is discarded and counted (R182); the transmit arbiter begins reply, notice, report or stream data
in that order, the other stream than the last one first, and changes nothing else (R181); the store port chooses the first waiting
client after the last-granted one, and in BURST a waiting page write first (R154, R155). An idle port begins the operation of the
client chosen, a busy one goes on; the operations begun: a page copied from the ring at its grant (R142), entries as held at the
grant (R150), an erase with its slot's entry marked ERASING (R151), items and check of a commit (R190), the page a stream or the
scrubber reads (R163, R169). -/
def Obligations.NoticesAndArbiters : Prop :=
  (∀ (b : NoticeBody) (s : State),
    (s.clp.notices.length < 16 →
      raise b s = { s with clp := { s.clp with notices := s.clp.notices ++ [⟨s.time, b⟩] } }) ∧
    (16 ≤ s.clp.notices.length →
      raise b s = { s with clp := { s.clp with lostNotices := min 65535 (s.clp.lostNotices + 1) } })) ∧
  (∀ s : State,
    let other := StreamNo.other s.clp.lastStream
    let sends (n : StreamNo) (f : StreamFrame) : State :=
      { s with clp := { s.clp with tx := some (.stream f), lastStream := n }
               rdu := s.rdu.set n { s.rdu.get n with buffer := none } }
    (∀ x, s.clp.tx = some x → txChoose s = s) ∧
    (s.clp.tx = none →
      (∀ r, s.clp.replySlot = some r →
        txChoose s = { s with clp := { s.clp with tx := some (.reply r), replySlot := none } }) ∧
      (∀ n rest, s.clp.replySlot = none → s.clp.notices = n :: rest →
        txChoose s = { s with clp := { s.clp with tx := some (.notice n), notices := rest } }) ∧
      (∀ c, s.clp.replySlot = none → s.clp.notices = [] → s.clp.reportSlot = some c →
        txChoose s = { s with clp := { s.clp with tx := some (.report c), reportSlot := none } }) ∧
      (s.clp.replySlot = none → s.clp.notices = [] → s.clp.reportSlot = none →
        (∀ f, (s.rdu.get other).buffer = some f → txChoose s = sends other f) ∧
        (∀ f, (s.rdu.get other).buffer = none → (s.rdu.get s.clp.lastStream).buffer = some f →
          txChoose s = sends s.clp.lastStream f) ∧
        ((s.rdu.get other).buffer = none → (s.rdu.get s.clp.lastStream).buffer = none → txChoose s = s)))) ∧
  (∀ s : State,
    (s.clp.working.storeMode = .burst → s.store.writer = some .page → s.chosenClient = some .writer) ∧
    (∀ (before : List Client) (c : Client) (after : List Client),
      (s.clp.working.storeMode = .interleaved ∨ s.store.writer ≠ some .page) →
      s.store.last.after = before ++ c :: after → (∀ b ∈ before, s.waits b = false) → s.waits c = true →
      s.chosenClient = some c)) ∧
  (∀ s : State,
    (∀ op, s.store.port = some op → portGrant s = s) ∧
    (s.store.port = none → s.chosenClient = none → portGrant s = s) ∧
    (∀ c, s.store.port = none → s.chosenClient = some c → portGrant s = grant c s)) ∧
  (∀ s : State,
    let begins (c : Client) (op : PortOp) (t : State) : Prop :=
      grant c s = { t with store := { t.store with last := c, port := some op } }
    (∀ r, s.cap.record = some r →
      let u : State := { s with store := { s.store with writer := none } }
      let hi := min (r.copied + 4) (r.pre + r.post)
      let place (b : SampleBlock) : Nat := (b.seq - (r.trigBlock - BitVec.ofNat 32 r.pre)).toNat
      (s.store.writer = some .erase → begins .writer (.reclaimErase r.slot)
        { u with nv := { s.nv with stored := s.nv.stored.set r.slot .erasing } }) ∧
      (∀ i, s.store.writer = some .opening → (s.entry r.slot).record = some i → begins .writer (.opening r.slot i) u) ∧
      (s.store.writer = some .page → begins .writer
        (.page r.slot (r.copied / 4)
          ((s.cap.ring.filter (fun b => decide (r.copied ≤ place b) && decide (place b < hi))).map (storedForm r.mask)))
        { u with cap := { s.cap with record := some { r with copied := hi } } })) ∧
    (∀ w rest i, s.store.dirQueue = w :: rest → (s.entry w.slot).record = some i →
      begins .directory (.dir w (if w.kind = .unprotect then { i with isProtected := false } else i))
        { s with store := { s.store with dirQueue := rest } }) ∧
    (∀ k, s.clp.commit = some k →
      let u : State := { s with clp := { s.clp with commit := some { k with ask := false } } }
      (k.todo = [] → begins .config .configCheck u) ∧ (∀ n rest, k.todo = n :: rest → begins .config (.configItem n) u)) ∧
    (∀ n, let d := s.rdu.get n
      begins (match n with | .s0 => .s0 | .s1 => .s1)
        (.streamRead n ((s.slotOf d.record).getD 0) ((d.next + 1).toNat / 4) true)
        { s with rdu := s.rdu.set n { d with ask := false } }) ∧
    (∀ k, s.store.check = some k → begins .scrubber (.scrubRead k.slot k.page true)
      { s with store := { s.store with check := some { k with ask := false } } }) ∧
    (∀ h, s.store.hostErase = some h → begins .hostErase (.hostErase h.slot)
      { s with store := { s.store with hostErase := some { h with ask := false } }
               nv := { s.nv with stored := s.nv.stored.set h.slot .erasing } }))

/-- An admitted trigger in IDLE opens a capture on the lowest FREE slot, else on the slot of the unprotected CLOSED record with
the lowest number, which goes ERASING (R137, R156): a stream reading that record ends RECORD_GONE, at once or at the end of its
frame (R173), the slot's waiting directory writes are withdrawn (R156) and its scrub check is abandoned (R164). It is refused with
STORE_FULL where neither slot stands or no record number is left (R138, R152). The two slots: the lowest FREE one of the 48, none
where none is FREE; a CLOSED unprotected record with no lower number beside it, none where none stands (R137, R156). -/
def Obligations.TriggerOpensCapture : Prop :=
  (∀ (slot number : Nat) (s : State),
    let full (j : Nat) : Prop := (s.entry j).state ≠ .free
    let may (j n : Nat) : Prop :=
      (s.entry j).state = .closed ∧ ∃ i, (s.entry j).record = some i ∧ i.isProtected = false ∧ i.number = n
    (s.freeSlot = some slot ↔ slot < 48 ∧ (s.entry slot).state = .free ∧ ∀ j < slot, full j) ∧
    (s.freeSlot = none ↔ ∀ j < 48, full j) ∧
    (s.reclaimSlot = some (slot, number) → slot < 48 ∧ may slot number ∧ ∀ j < 48, ∀ n, may j n → number ≤ n) ∧
    (s.reclaimSlot = none ↔ ∀ j < 48, ∀ n, ¬may j n)) ∧
  ∀ (src : Source) (s : State), s.cap.state = .idle → s.clp.working.admits src = true →
    let t := trigger src false s
    let pre := min s.clp.working.preTrigger s.cap.ring.length
    let opens (slot : Nat) (st : SlotState) (w : WriterOp) : Prop :=
      t.cap.state = .allocating ∧ t.store.nextNumber = s.store.nextNumber + 1 ∧ t.cap.dropped = 0 ∧
        t.cap.record = some ⟨s.store.nextNumber, slot, src, s.cap.fill, s.time, pre, s.clp.working.postTrigger,
          s.clp.working.recordChannels, 0, none⟩ ∧ t.store.writer = some w ∧
        t.cap.marks = (s.cap.marks ||| (1#8 <<< src.code)) ∧ t.cap.waiting = s.cap.waiting ∧ t.cap.ring = s.cap.ring ∧
        (slot < s.store.dir.length → t.entry slot = ⟨st, some ⟨s.store.nextNumber, src, s.time, pre, 0, none,
          src.protectedClass, false, s.clp.working.recordChannels, [], s.cap.dropped⟩⟩)
    (∀ slot, s.freeSlot = some slot → s.store.nextNumber ≤ 4294967295 → opens slot .capturing .opening) ∧
    (∀ slot old, s.freeSlot = none → s.reclaimSlot = some (slot, old) → s.store.nextNumber ≤ 4294967295 →
      slot < s.store.dir.length → opens slot .erasing .erase ∧
      (∀ n, let d := s.rdu.get n
        let e := t.rdu.get n
        (d.record = old → d.state = .running → d.status = none →
          e.status = some .recordGone ∧ e.ask = false ∧ e.buffer = none ∧
            e.state = (if s.streamOnLine n then .running else .complete)) ∧
        (d.record ≠ old → e = d)) ∧
      t.store.dirQueue = s.store.dirQueue.filter (fun w => w.slot != slot) ∧
      (∀ k, t.store.check = some k → k.slot ≠ slot) ∧
      (∀ k, s.store.check = some k → k.slot ≠ slot → t.store.check = some k)) ∧
    ((4294967295 < s.store.nextNumber ∨ s.freeSlot = none ∧ s.reclaimSlot = none) →
      t = raise (.storeFull src s.time (min 65535 (s.cap.storeFull + 1)))
          { s with cap := { s.cap with storeFull := min 65535 (s.cap.storeFull + 1),
                                       marks := s.cap.marks ||| (1#8 <<< src.code) } })

/-- A source is admitted when enabled, EMERGENCY always (R134). A trigger not admitted leaves its mark alone; in CLOSING, or
beyond the open record's last block, it waits while fewer than 4 wait, else it is dropped and counted, and a repeat is discarded
(R134, R141); within the open record's window it is a secondary at its offset, appended while fewer than 8 stand in the list,
protecting where its class does (R140). Offsets are counted across the wrap of the block numbers (R130). -/
def Obligations.TriggerWaitsOrJoins : Prop :=
  (∀ (src : Source) (w : Settings), w.admits src = true ↔ src = .emergency ∨ w.triggerEnable.getLsbD src.code = true) ∧
  (∀ (src : Source) (s : State),
    let m : State := { s with cap := { s.cap with marks := s.cap.marks ||| (1#8 <<< src.code) } }
    let waits : Prop := s.cap.state = .closing ∨ (s.cap.state = .allocating ∨ s.cap.state = .capturing) ∧
      ∃ r, s.cap.record = some r ∧ r.pre + r.post ≤ (s.cap.fill - (r.trigBlock - BitVec.ofNat 32 r.pre)).toNat
    (∀ again, s.clp.working.admits src = false → trigger src again s = m) ∧
    (s.clp.working.admits src = true → (waits ∨ s.cap.state = .idle) → trigger src true s = m) ∧
    (s.clp.working.admits src = true → waits → s.cap.waiting.length < 4 →
      trigger src false s =
        { m with cap := { m.cap with waiting := s.cap.waiting ++ [⟨src, s.cap.fill, s.time,
          s.clp.working.preTrigger, s.clp.working.postTrigger, s.clp.working.recordChannels⟩] } }) ∧
    (s.clp.working.admits src = true → waits → 4 ≤ s.cap.waiting.length →
      trigger src false s = { m with cap := { m.cap with dropped := min 65535 (s.cap.dropped + 1) } })) ∧
  (∀ (src : Source) (again : Bool) (r : OpenRecord) (i : RecordInfo) (s : State),
    s.clp.working.admits src = true → (s.cap.state = .allocating ∨ s.cap.state = .capturing) → s.cap.record = some r →
    let offset := (s.cap.fill - (r.trigBlock - BitVec.ofNat 32 r.pre)).toNat
    offset < r.pre + r.post → r.slot < s.store.dir.length → (s.entry r.slot).record = some i →
    ((trigger src again s).entry r.slot).record = some
      { i with
        secondary := if i.secondary.length < 8 then i.secondary ++ [(src, offset)] else i.secondary
        overflow := if i.secondary.length < 8 then i.overflow else min 65535 (i.overflow + 1)
        isProtected := i.isProtected || src.protectedClass } ∧
      (trigger src again s).cap.record = some r ∧ (trigger src again s).cap.waiting = s.cap.waiting)

/-! ## Invariants -/

/-- The machine after reset has the three invariants. -/
def Obligations.ResetSatisfiesInvariants : Prop :=
  State.reset.valvesExclusive ∧ State.reset.pagesCanonical ∧ State.reset.listsBounded

/-- A channel never drives its apply and release valves on together: no step brings that about (R50). -/
def Obligations.ValvesNeverBothDriven : Prop :=
  ∀ s t : State, s.valvesExclusive → step s = .next t → t.valvesExclusive

/-- The record area keeps its canonical form at every step. -/
def Obligations.PagesStayCanonical : Prop :=
  ∀ s t : State, s.pagesCanonical → step s = .next t → t.pagesCanonical

/-- The queues keep their bounds at every step: 4 requests, 16 notices, 4 pending triggers, 512 sample blocks (R179, R182,
R141, R133). -/
def Obligations.ListsStayBounded : Prop :=
  ∀ s t : State, s.listsBounded → step s = .next t → t.listsBounded

/-! ## Power -/

/-- POWER_ON leaves every block at its values of R17, R44, R60, R82, R97, R114, R129, R147, R176 and R193, with the working set
loaded, or the factory defaults and CONFIG_DEFAULTED (R189). The memory is that of the scan (R166), on a part with power after its
operation in hand was torn (the model's choice, log 9); the working directory is its image, and the next record number is one
above the highest held (R152). The values of R44, R60, R82, R97, R114, R147 and R17 themselves; those items of the boot values for
which these rules name no value are the model's (log 33). The load's test: the defaults at a check that is bad, else at the lowest
item out of its range, else none (R189; the check over the values, and its place before the ranges, are log 12). -/
def Obligations.PowerOnResetsPart : Prop :=
  (∀ (f : ScanFaults) (s : State), ∃ t : State, exec (.powerOn f) s = .next t ∧
    t.powered = true ∧ t.rom = s.rom ∧ t.pending = s.pending ∧ t.time = 0 ∧ t.begun = false ∧
    t.flm = Flm.boot t.clp.working ∧ t.ble = Ble.boot ∧ t.tpc = ⟨Tpc.boot, Tpc.boot⟩ ∧ t.am = Am.boot ∧ t.es = Es.boot ∧
    t.csl = Csl.boot ∧ t.cap = Cap.boot ∧ t.rdu = ⟨Stream.boot, Stream.boot⟩ ∧
    t.nv = scanStore f (if s.powered then nvAfterLoss .torn s else s.nv) ∧
    t.store = Store.boot (t.nv.stored.map workingEntry) (highestNumber t.store.dir + 1) ∧
    (∀ e ∈ t.store.dir, ∀ i, e.record = some i → i.number < t.store.nextNumber) ∧
    t.nv.area = (if s.powered then nvAfterLoss .torn s else s.nv).area ∧
    (loadFault f t.nv.area = none →
      t.clp = Clp.boot t.nv.area.values t.nv.area.values true []) ∧
    (∀ c, loadFault f t.nv.area = some c →
      t.clp = Clp.boot Config.defaults Config.defaults false [⟨0, .configDefaulted c⟩])) ∧
  (∀ (f : ScanFaults) (a : ConfigArea),
    let good : Prop := f.badSet = false ∧ a.checkOver = some a.values
    let inRange (n : Nat) : Prop := itemInRange n a.values = true
    (loadFault f a = none ↔ good ∧ ∀ n, 1 ≤ n → n ≤ 29 → inRange n) ∧
    (loadFault f a = some .badCheck ↔ ¬good) ∧
    (∀ n, loadFault f a = some (.outOfRange n) ↔
      good ∧ 1 ≤ n ∧ n ≤ 29 ∧ ¬inRange n ∧ ∀ m, 1 ≤ m → m < n → inRange m)) ∧
  ((Ble.boot.blend = .failsafe ∧ Ble.boot.master = false ∧
    ∀ k, (Ble.boot.trucks.get k).enable = true ∧ (Ble.boot.trucks.get k).dbFault = false ∧
      (Ble.boot.trucks.get k).shortfall = .normal ∧ (Ble.boot.trucks.get k).request = 0 ∧
      (Ble.boot.trucks.get k).airTarget = 0) ∧
  (Tpc.boot.state = .off ∧ Tpc.boot.apply = false ∧ Tpc.boot.release = false ∧ Tpc.boot.target = 0 ∧
    Tpc.boot.claims = ⟨0, 0, false, .idle⟩ ∧ Tpc.boot.ramp = none ∧ Tpc.boot.latch = .clear ∧
    Tpc.boot.sensorFault = false ∧ Tpc.boot.window = 0 ∧ Tpc.boot.progressRef = 0 ∧ Tpc.boot.noProgress = 0) ∧
  (Es.boot.latch = false ∧ Es.boot.cause = .none ∧ Es.boot.entryTime = none ∧ Es.boot.history = [] ∧
    Es.boot.charged = false ∧ Es.boot.penalty = false ∧ Es.boot.penaltyCode = 0 ∧ Es.boot.seen = []) ∧
  (Am.boot.known = false ∧ Am.boot.vref = 0 ∧ ∀ k, (Am.boot.trucks.get k).ceiling = .unlimited) ∧
  (Csl.boot.role = .offline ∧ Csl.boot.roster = [] ∧ Csl.boot.enrolled = false ∧ Csl.boot.leadId = 0) ∧
  (Cap.boot.state = .idle ∧ Cap.boot.ring = [] ∧ Cap.boot.fill = 0) ∧
  (State.reset.flm.link = .start ∧ State.reset.flm.controlActive = false ∧ State.reset.flm.counter = 0 ∧
    ∀ n < 17, State.reset.chan n = ⟨0, .invalid, 0⟩))

/-- The start-up scan makes of each stored entry and of its slot's pages what R166 gives: FREE and CLOSED stay, ERASING and bad
entries become FREE with the slot erased, CAPTURING is closed INTERRUPTED with the blocks held in the pages from 0 upward until
the first that reads bad or holds no block, or all 320; but for an erased slot the pages are as before. -/
def Obligations.ScanTreatsEntries : Prop :=
  ∀ (f : ScanFaults) (nv : NonVolatile) (slot : Nat) (e : StoredEntry), nv.stored[slot]? = some e →
    let g := (scanStore f nv).stored[slot]?
    let erased := slot ∈ f.badEntries ∨ e = .erasing ∨ e = .badCheck
    ((erased ∨ e = .free) → g = some .free) ∧
    (∀ r, slot ∉ f.badEntries → e = .closed r → g = some (.closed r)) ∧
    (∀ r, slot ∉ f.badEntries → e = .capturing r →
      let page (p : Nat) : Option Page := pagesRead nv.pages (slot * 320 + p)
      let good (p : Nat) : Prop := (slot, p) ∉ f.badPages ∧ ∃ x, page p = some x ∧ x.check = true ∧ x.blocks ≠ []
      ∃ n ≤ 320, (∀ p < n, good p) ∧ (n = 320 ∨ ¬good n) ∧
        g = some (.closed { r with
          close := some .interrupted
          damaged := false
          blocks := ((List.range n).map (fun p => ((page p).map (fun x => x.blocks.length)).getD 0)).sum })) ∧
    (∀ p < 320, (erased → pagesRead (scanStore f nv).pages (slot * 320 + p) = none) ∧
      (¬erased → pagesRead (scanStore f nv).pages (slot * 320 + p) = pagesRead nv.pages (slot * 320 + p))) ∧
    (scanStore f nv).area = nv.area

/-- POWER_LOSS stops the part with its outputs off; what is switched off, and that all else volatile stands, is the model's choice
(log 9). Of the operation cut short (log 10): a page being written reads bad, the other pages as before (R149); an entry being
written is bad (R166), the opening one too; a configuration item or check being written leaves the check torn (R191); an erase
leaves its entry and no page; a read leaves nothing; or nothing was begun. -/
def Obligations.PowerLossStopsPart : Prop :=
  ∀ (c : CutShort) (s : State), s.powered = true → ∃ t : State, exec (.powerLoss c) s = .next t ∧
    t = { s with
      powered := false
      nv := t.nv
      flm := { s.flm with controlActive := false }
      csl := { s.csl with line := .idle }
      store := { s.store with port := none }
      clp := { s.clp with tx := none } } ∧
    (c = .untouched ∨ s.store.port = none → t.nv = s.nv) ∧
    (∀ slot page bs, c = .torn → s.store.port = some (.page slot page bs) →
      pagesRead t.nv.pages (slot * 320 + page) = some ⟨bs, false⟩ ∧
      (∀ a, a ≠ slot * 320 + page → pagesRead t.nv.pages a = pagesRead s.nv.pages a) ∧
      t.nv.stored = s.nv.stored ∧ t.nv.area = s.nv.area) ∧
    (∀ slot i, c = .torn → s.store.port = some (.opening slot i) →
      t.nv = { s.nv with stored := s.nv.stored.set slot .badCheck }) ∧
    (∀ slot, c = .torn → (s.store.port = some (.reclaimErase slot) ∨ s.store.port = some (.hostErase slot)) →
      (∀ p < 320, pagesRead t.nv.pages (slot * 320 + p) = none) ∧
      (∀ a, (a < slot * 320 ∨ (slot + 1) * 320 ≤ a) → pagesRead t.nv.pages a = pagesRead s.nv.pages a) ∧
      t.nv.stored = s.nv.stored ∧ t.nv.area = s.nv.area) ∧
    (∀ n slot page used, c = .torn →
      (s.store.port = some (.streamRead n slot page used) ∨ s.store.port = some (.scrubRead slot page used)) →
      t.nv = s.nv) ∧
    (∀ w i, c = .torn → s.store.port = some (.dir w i) →
      t.nv = { s.nv with stored := s.nv.stored.set w.slot .badCheck }) ∧
    (∀ n, c = .torn → (s.store.port = some .configCheck ∨ s.store.port = some (.configItem n)) →
      t.nv = { s.nv with area := { s.nv.area with checkOver := none } })

/-! ## The field cycle -/

/-- A field cycle start moves the time base by 5 ms from the second cycle on, the first at 0 (log 3), and with it the tick
counts of seal, scrub and consist cycle and the timers of report, silence, match and emergency hold; it counts the cycle,
puts the working items in force and builds the outbound frame from the values then held (R1, R2); the reply window opens at
its end (R3); the words of the frame (section 12.4), a request slot holding the truck's ramped request in kN×10, zero while
CONTROL_ACTIVE is off (R2, R11). -/
def Obligations.OutboundPhase : Prop :=
  (∀ s : State, s.powered = true → ∃ t : State, effect .fieldCycleStart s t ∧
    t.begun = true ∧ t.time = (if s.begun then s.time + 5 else s.time) ∧
    t.flm = { s.flm with
      phase := .sending
      counter := if s.begun then s.flm.counter + 1 else 0
      mapInForce := s.clp.working.slotMap
      compareInForce := s.clp.working.statusCompare
      maskInForce := s.clp.working.statusMask
      senseInForce := s.clp.working.statusSense
      matchAge := if s.begun then s.flm.matchAge.map (· + 5) else s.flm.matchAge
      outbound := some ⟨t.flm.counter,
        [t.partStatus, t.requestSlot .t1, t.requestSlot .t2, t.sandSlot] ++ List.replicate 28 0⟩ } ∧
    t.es = (if s.begun && s.es.latch then { s.es with held := s.es.held + 5 } else s.es) ∧
    t.cap = (if s.begun then { s.cap with sealTicks := s.cap.sealTicks + 1 } else s.cap) ∧
    t.store = (if s.begun then { s.store with scrubTicks := s.store.scrubTicks + 1 } else s.store) ∧
    t.clp = (if s.begun then { s.clp with reportIn := s.clp.reportIn.map (· - 5) } else s.clp) ∧
    t.csl = (if s.begun then
      { s.csl with cycleTicks := if s.csl.role = .lead then s.csl.cycleTicks + 1 else s.csl.cycleTicks
                   silence := s.csl.silence.map (· + 5) } else s.csl) ∧
    t.powered = s.powered ∧ t.rom = s.rom ∧ t.ble = s.ble ∧ t.tpc = s.tpc ∧ t.am = s.am ∧ t.nv = s.nv ∧ t.rdu = s.rdu ∧
    t.pending = s.pending) ∧
  (∀ s : State, s.powered = true →
    (s.flm.phase = .sending → effect .outboundFrameSent s { s with flm := { s.flm with phase := .window } }) ∧
    (s.flm.phase ≠ .sending → effect .outboundFrameSent s s)) ∧
  (∀ s : State,
    s.partStatus.getLsbD 15 = s.flm.controlActive ∧ s.partStatus.getLsbD 14 = s.es.latch ∧
    s.partStatus.toNat % 8 = s.ble.blend.code ∧
    (s.flm.controlActive = false → s.requestSlot .t1 = 0 ∧ s.requestSlot .t2 = 0) ∧
    (s.flm.controlActive = true → ∀ k, s.requestSlot k = BitVec.ofNat 16 ((s.ble.trucks.get k).request / 10)) ∧
    s.sandSlot.getLsbD 0 = (s.am.trucks.get .t1).sand ∧ s.sandSlot.getLsbD 1 = (s.am.trucks.get .t2).sand)

/-- The decision of a cycle whose window is open: the FLM's part and then BLE, TPC, AM and ES each once, in the order of the
operand (log 6), the AM with its choice for an axle without a VALID speed (log 41): each block makes its update on the state
that the one before it left, channel 1 before channel 2. Every order of the four is the order of some operand. It leaves base,
consist line, memory, settings and the ring. With the link UP or DEGRADED the BLE recomputes (R19) and the AM makes its steps in
the order of R61, truck 1 before truck 2 (log 6): the braking test of R62, V_ref, the axles, DEGRADED, the corrections, the
ceilings and sand requests, and the slide claims handed. -/
def Obligations.FieldCycleDecided : Prop :=
  (∀ (d : CycleEnd) (s : State), s.powered = true →
    let updates (b : Block) (u : State) : State := match b with
      | .ble => bleUpdate u
      | .tpc => tpcDecide .t2 (tpcDecide .t1 u)
      | .am => amUpdate d.held u
      | .es => esUpdate u
    (s.flm.phase = .window → ∃ t : State, effect (.fieldCycleDecision d) s t ∧
      t = (blockList d.order).foldl (fun u b => updates b u) (flmDecision d.rx s) ∧
      List.Perm (blockList d.order) [Block.ble, Block.tpc, Block.am, Block.es] ∧
      t.flm = (flmDecision d.rx s).flm ∧ sameBase s t ∧ t.csl = s.csl ∧ t.nv = s.nv ∧ sameLinkButNotices s t ∧
      t.cap.ring = s.cap.ring ∧ t.cap.fill = s.cap.fill) ∧
    (s.flm.phase ≠ .window → effect (.fieldCycleDecision d) s s)) ∧
  (∀ order, List.Perm order [Block.ble, Block.tpc, Block.am, Block.es] → ∃ o : BlockOrder, blockList o = order) ∧
  (∀ (held : Bool) (s : State), LinkState.connected s.flm.link = true →
    let v := degradedStep (axleStep held s.braking (vrefStep s))
    let before : PerTruck Correction := ⟨v.am.trucks.t1.correction, v.am.trucks.t2.correction⟩
    let u := ceilingSandStep before (correctionStep .t2 (correctionStep .t1 v))
    bleUpdate s = bleRecompute s ∧
    (s.braking = true ↔ ∃ k, 30 < (s.tpc.get k).target ∨ 1000 < (s.ble.trucks.get k).request) ∧
    amUpdate held s = { u with
      tpc := ⟨{ u.tpc.t1 with claims := { u.tpc.t1.claims with slide := u.am.trucks.t1.correction } },
              { u.tpc.t2 with claims := { u.tpc.t2.claims with slide := u.am.trucks.t2.correction } }⟩ })

/-- A good cycle gives each channel its slot's value, VALID where the channel is mapped and the value within its range, else keeps
the value INVALID; it takes the status word, counts the run, and in LOST the decision (R4, R7). The decision is then the status
compare on that state (R14 to R16) and, on what it leaves, the link transition of a good cycle (R8, R9; in that order, log 39). -/
def Obligations.GoodCycleUpdatesImage : Prop :=
  ∀ (slots : List Word16) (s : State), s.flm.image.length = 17 → slots.length = 32 →
    let rx := Inbound.frame s.flm.counter slots (crc16 (fieldBytes s.flm.counter slots))
    let t := flmDecision rx s
    let taken (n : Nat) : Channel :=
      let slot := s.flm.mapInForce.getD n 0
      let v := (slots.getD slot 0).toNat
      if slot ≠ 0 ∧ v ≤ channelMax n then ⟨v, .valid, 0⟩ else ⟨(s.chan n).value, .invalid, 0⟩
    (∀ n < 17, t.chan n = taken n) ∧
    t.flm.statusWord = slots.getD 0 0 ∧ t.flm.goodRun = min 255 (s.flm.goodRun + 1) ∧ t.flm.badRun = 0 ∧
    t.flm.phase = .decided ∧
    t = linkTransition true (statusCompare { s with flm := { s.flm with
      phase := .decided
      lostCount := if s.flm.link = .lost then s.flm.lostCount + 1 else s.flm.lostCount
      goodRun := min 255 (s.flm.goodRun + 1)
      badRun := 0
      image := (List.range 17).map taken
      statusWord := slots.getD 0 0 } })

/-- The table of R5: what a bad cycle makes of a channel, with the status word and the last-match flag kept and no status compare.
The decision is the link transition of a bad cycle (R8 to R10) on the state with the counts and the image of the cycle (R5, R7). -/
def Obligations.BadCycleAgesImage : Prop :=
  ∀ (rx : Inbound) (s : State), goodSlots s.flm.counter rx = none →
    let t := flmDecision rx s
    (∀ n, n < s.flm.image.length →
      ((s.chan n).validity = .valid → t.chan n = ⟨(s.chan n).value, .stale, 1⟩) ∧
      ((s.chan n).validity = .stale → (s.chan n).age = 1 → t.chan n = ⟨(s.chan n).value, .stale, 2⟩) ∧
      ((s.chan n).validity = .stale → (s.chan n).age = 2 → t.chan n = ⟨(s.chan n).value, .invalid, 0⟩) ∧
      ((s.chan n).validity = .invalid → t.chan n = s.chan n)) ∧
    t.flm.statusWord = s.flm.statusWord ∧ t.flm.lastMatch = s.flm.lastMatch ∧
    t.flm.image.length = s.flm.image.length ∧
    t = linkTransition false { s with flm := { s.flm with
      phase := .decided
      lostCount := if s.flm.link = .lost then s.flm.lostCount + 1 else s.flm.lostCount
      goodRun := 0
      badRun := min 255 (s.flm.badRun + 1)
      image := t.flm.image } }

/-- The transitions of the field link with what they raise and CONTROL_ACTIVE, on the counts after the cycle, and the two rows
FIELD_LINK_UP and FIELD_LINK_LOST at the decisions that bring them, each of which is the whole decision (R8 to R11; that a row
with its operand is the whole decision is log 1). The lost-cycle count is 0 at the entry to LOST and rises by 1 at each decision
made in LOST, that to UP too (R7). -/
def Obligations.LinkTransitionsAndEvents : Prop :=
  (∀ s : State,
    let linkAs (l : LinkState) (f : Flm) : Flm := { f with link := l }
    let up : State := { s with flm := { s.flm with link := .up, controlActive := true } }
    (s.flm.link = .start → linkTransition false s = s ∧ (s.flm.goodRun < 8 → linkTransition true s = s) ∧
      (8 ≤ s.flm.goodRun → linkTransition true s = up)) ∧
    (s.flm.link = .up → linkTransition true s = s ∧ linkTransition false s = { s with flm := linkAs .degraded s.flm }) ∧
    (s.flm.link = .degraded → linkTransition true s = { s with flm := linkAs .up s.flm } ∧
      (s.flm.badRun < 3 → linkTransition false s = s) ∧
      (3 ≤ s.flm.badRun → linkTransition false s =
        trigger .linkLost false (raise (.fieldLinkLost s.flm.counter)
          { s with flm := { s.flm with link := .lost, lostCount := 0, controlActive := false } }))) ∧
    (s.flm.link = .lost → linkTransition false s = s ∧ (s.flm.goodRun < 8 → linkTransition true s = s) ∧
      (8 ≤ s.flm.goodRun → linkTransition true s = raise (.fieldLinkUp s.flm.counter s.flm.lostCount) up))) ∧
  (∀ (d : CycleEnd) (s : State), s.powered = true → s.flm.phase = .window →
    ((s.flm.link = .start ∨ s.flm.link = .lost) → s.flm.goodRun = 7 → (goodSlots s.flm.counter d.rx).isSome = true →
      ∃ t : State, effect (.fieldLinkUp d) s t ∧ t = cycleDecision d s ∧ t.flm.link = .up ∧ t.flm.controlActive = true) ∧
    (s.flm.link = .degraded → s.flm.badRun = 2 → goodSlots s.flm.counter d.rx = none →
      ∃ t : State, effect (.fieldLinkLost d) s t ∧ t = cycleDecision d s ∧ t.flm.link = .lost ∧
        t.flm.controlActive = false ∧ t.flm.lostCount = 0)) ∧
  (∀ (rx : Inbound) (s : State),
    let t := flmDecision rx s
    (s.flm.link = .lost → t.flm.lostCount = s.flm.lostCount + 1) ∧
    (s.flm.link ≠ .lost → t.flm.link = .lost → t.flm.lostCount = 0) ∧
    (s.flm.link ≠ .lost → t.flm.link ≠ .lost → t.flm.lostCount = s.flm.lostCount))

/-- An event row with the decision at which it falls is that decision; where the event does not fall at it, the row leaves the
state (log 1). When each falls, by the states before and after the decision: FIELD_LINK_UP and FIELD_LINK_LOST (R10),
SHORTFALL_ENTRY, SHORTFALL_CLEAR and DB_FAULT_LATCH (R36 to R38), the end of a supervision window and the fault latch (R55, R56),
the axle events (R67, R68, R70, R71) and the ends of a dump, a hold and a settle (R75 to R77). Those of the BLE and the AM do not
fall where the decision loses the link or V_ref, as each clause says. -/
def Obligations.EventRowsAtDecision : Prop :=
  ∀ (d : CycleEnd) (k : Truck) (a : Axle) (s : State), s.powered = true →
    let t := fieldCycleDecision d s
    let falls (c : Instr) (p : Prop) : Prop := (p → effect c s t) ∧ (¬p → effect c s s)
    let linked (x : State) : Prop := x.flm.link = .up ∨ x.flm.link = .degraded
    let blend (x : State) : TruckBlend := x.ble.trucks.get k
    let chan (x : State) : Tpc := x.tpc.get k
    let axle (x : State) : AxleState := (x.am.axles.get a).state
    let slide (x : State) : Correction := (x.am.trucks.get k).correction
    let latches : Prop := (chan s).latch = .clear ∧ (chan t).latch ≠ .clear
    falls (.fieldLinkUp d) (¬linked s ∧ linked t) ∧
    falls (.fieldLinkLost d) (s.flm.link = .degraded ∧ t.flm.link = .lost) ∧
    falls (.shortfallEntry k (some d)) ((blend s).shortfall = .normal ∧ (blend t).shortfall ≠ .normal) ∧
    falls (.shortfallClear k (some d)) ((blend s).shortfall = .shortfall ∧ (blend t).shortfall = .normal ∧ linked t) ∧
    falls (.dbFaultLatch k (some d)) ((blend s).dbFault = false ∧ (blend t).dbFault = true) ∧
    falls (.supervisionWindowEnd k (some d)) (((chan s).state = .applying ∨ (chan s).state = .releasing) ∧
      995 ≤ (chan s).window ∧ ((chan t).state = (chan s).state ∨ latches)) ∧
    falls (.channelFaultLatch k (some d)) latches ∧
    falls (.axleSlideConfirm a (some d)) (axle s = .suspect ∧ axle t = .sliding) ∧
    falls (.axleRecoveryEnd a (some d)) (axle s = .recovery ∧ axle t = .rolling ∧ t.am.known = true) ∧
    falls (.axleExclude a (some d)) (axle s ≠ .excluded ∧ axle t = .excluded) ∧
    falls (.axleReturn a (some d)) (axle s = .excluded ∧ axle t = .rolling ∧ linked t) ∧
    falls (.forcedReapply k (some d)) (slide s = .dumping ∧ slide t = .reapplyHold ∧ linked t) ∧
    falls (.reapplyHoldEnd k (some d)) (slide s = .reapplyHold ∧ slide t ≠ .reapplyHold ∧ linked t) ∧
    falls (.settleEnd k (some d)) (slide s = .settling ∧ slide t = .idle ∧ linked t)

/-- The status word matches when the mask in force is not 0 and word and pattern agree in every bit of it (R14). The
compare of a good cycle keeps its result in the last-match flag; it raises STATUS_MATCH at an edge with EDGE, and with
LEVEL at a match when 10 s have passed since the last one or there was none (R14 to R16). -/
def Obligations.StatusCompare : Prop :=
  (∀ f : Flm, Flm.matches f = true ↔
    f.maskInForce ≠ 0 ∧ ∀ i, f.maskInForce.getLsbD i = true → f.statusWord.getLsbD i = f.compareInForce.getLsbD i) ∧
  (∀ s : State,
    let due : Bool := Flm.matches s.flm && (match s.flm.senseInForce with
      | .edge => !s.flm.lastMatch
      | .level => s.flm.matchAge.all (fun a => decide (10000 ≤ a)))
    let f : Flm := { s.flm with lastMatch := Flm.matches s.flm }
    statusCompare s =
      if due then trigger .statusMatch false { s with flm := { f with matchAge := some 0 } } else { s with flm := f })

/-! ## Blending -/

/-- Reduction and demands (R20 to R22) and the three cases of a truck's dynamic capacity (R24), which is 0 while DB_AVAIL is
INVALID (R20; in DUMPING too, log 40). The curve term is the DB curve at the held V_ref, of the first point up to its speed, of
the last from its speed on, between two points by linear interpolation, halved once while V_ref is UNKNOWN or the truck DEGRADED
(R23), truncated to 0.1 kN (log 35). -/
def Obligations.DemandAndCapacity : Prop :=
  (∀ s : State,
    ((s.es.penalty = true ∨ (s.chan 9).validity = .invalid) → s.reduction = 150) ∧
    (s.es.penalty = false → (s.chan 9).validity ≠ .invalid →
      s.reduction = min 150 (s.clp.working.pipeNominal - (s.chan 9).value)) ∧
    s.eAutoNow = s.clp.working.autoGain * s.reduction / 10 ∧
    ((s.chan 11).validity = .invalid → s.eDhNow = 0) ∧
    ((s.chan 11).validity ≠ .invalid → s.eDhNow = (s.chan 11).value * s.clp.working.dynHandleFull / 1000) ∧
    s.dDemNow = max s.eAutoNow s.eDhNow) ∧
  (∀ (k : Truck) (s : State),
    let b := s.ble.trucks.get k
    let a := s.am.trucks.get k
    ((s.effectiveMaster = false ∨ b.enable = false ∨ b.dbFault = true) → s.capacityOf k = 0) ∧
    ((s.chan k.availChannel).validity = .invalid → s.capacityOf k = 0) ∧
    (s.effectiveMaster = true → b.enable = true → b.dbFault = false → a.correction = .dumping →
      (s.chan k.availChannel).validity ≠ .invalid → s.capacityOf k = a.onsetRequest / 20) ∧
    (s.effectiveMaster = true → b.enable = true → b.dbFault = false → a.correction ≠ .dumping →
      s.capacityOf k ≤ s.curveTerm k ∧ s.capacityOf k ≤ s.available k ∧
      (∀ c, a.ceiling = .finite c → s.capacityOf k ≤ c / 10) ∧
      (b.shortfall = .shortfall → s.capacityOf k ≤ s.achieved k) ∧
      (s.capacityOf k = s.curveTerm k ∨ s.capacityOf k = s.available k ∨
        (∃ c, a.ceiling = .finite c ∧ s.capacityOf k = c / 10) ∨
        b.shortfall = .shortfall ∧ s.capacityOf k = s.achieved k)) ∧
    s.available k = (if (s.chan k.availChannel).validity = .invalid then 0 else (s.chan k.availChannel).value) ∧
    s.achieved k = (if (s.chan k.achievedChannel).validity = .invalid then 0 else (s.chan k.achievedChannel).value)) ∧
  (∀ (k : Truck) (s : State),
    let curve := s.clp.working.dbCurve
    let speed := s.am.vref / 100
    let share := if s.am.known = false ∨ (s.am.trucks.get k).degraded = true then 2 else 1
    (∀ p rest, curve = p :: rest → speed ≤ p.1 → s.curveTerm k = p.2 / share) ∧
    (curve.Pairwise (fun p q => p.1 < q.1) →
      (∀ rest p, curve = rest ++ [p] → p.1 ≤ speed → s.curveTerm k = p.2 / share) ∧
      (∀ front p q rest, curve = front ++ p :: q :: rest → p.1 ≤ speed → speed < q.1 →
        s.curveTerm k = (p.2 * (q.1 - speed) + q.2 * (speed - p.1)) / (share * (q.1 - p.1)))))

/-- No unit's share exceeds its capacity, no truck's target its truck's, and the shares together exceed neither the consist
capacity nor the dynamic demand (R26); a FOLLOWING trail takes the share received, no more than its capacity (R41). A recompute
fills with air what the dynamic effort leaves of E_auto, or what the share asks, nothing under bail (R28, R31, R41), and on a lead
offers each entry its share with the air pressure of each counted truck (R28, R40). Its terms: the share n × part / whole,
truncated, 0 of a whole of 0 (R26); an ACTIVE entry counts its last capacity, 0 before its first STATUS, and the trucks whose
fault flag is clear, none in FAILSAFE, both before its first STATUS, a LOST entry neither (R25, R28); the own trucks not in FAULT
(R28); the follow inputs, the master enable and the bail of a FOLLOWING trail, and those of any other unit (R31, R34, R41). -/
def Obligations.SharesStayWithinCapacity : Prop :=
  (∀ n part whole : Nat, portion n part whole = if whole = 0 then 0 else n * part / whole) ∧
  (∀ e : Entry,
    (e.state = .lost → e.counted = 0 ∧ e.airTrucks = 0) ∧
    (e.state = .active → e.last = none → e.counted = 0 ∧ e.airTrucks = 2) ∧
    (∀ l, e.state = .active → e.last = some l → e.counted = l.capacity ∧
      e.airTrucks = if l.flags.failsafe then 0 else (if l.flags.fault.t1 then 0 else 1) + (if l.flags.fault.t2 then 0 else 1))) ∧
  (∀ s : State,
    let follows : Prop := s.csl.role = .trail ∧ s.csl.follow = some .following
    let air (k : Truck) : Nat := if (s.tpc.get k).state = .fault then 0 else 1
    (s.leading = true ↔ s.csl.role = .lead ∧ s.csl.conflict = false) ∧
    s.ownAirTrucks = air .t1 + air .t2 ∧
    s.othersCapacity = (if s.leading then (s.csl.roster.map Entry.counted).sum else 0) ∧
    (follows → s.followInUse = s.ble.follow ∧
      (s.effectiveMaster = true ↔ s.ble.master = true ∧ ∃ f, s.ble.follow = some f ∧ f.master = true) ∧
      (s.bail = true ↔ ∃ f, s.ble.follow = some f ∧ f.bail = true)) ∧
    (¬follows → s.followInUse = none ∧ s.effectiveMaster = s.ble.master ∧
      (s.bail = true ↔ (s.chan 12).validity ≠ .invalid ∧ (s.chan 12).value = 1))) ∧
  (∀ (own : Nat) (s : State), s.followInUse = none →
    let total := own + s.othersCapacity
    let d := min s.dDemNow total
    s.ownShare own ≤ own ∧ (∀ mine, mine ≤ own → s.targetOf mine own ≤ mine) ∧
    (s.leading = true →
      (∀ e ∈ s.csl.roster, portion d e.counted total ≤ e.counted) ∧
      s.ownShare own + (s.csl.roster.map (fun e => portion d e.counted total)).sum ≤ d) ∧
    d ≤ total ∧ d ≤ s.dDemNow) ∧
  (∀ (own : Nat) (f : FollowInputs) (s : State), s.followInUse = some f →
    s.ownShare own = min f.share own ∧ (∀ mine, mine ≤ own → s.targetOf mine own ≤ mine)) ∧
  (∀ s : State,
    let t := bleRecompute s
    let counted := s.ownAirTrucks + if s.leading then (s.csl.roster.map Entry.airTrucks).sum else 0
    let own := t.ble.trucks.t1.capacity + t.ble.trucks.t2.capacity
    let total := own + s.othersCapacity
    let share := match s.followInUse with
      | some f => min f.share own
      | none => if total = 0 then 0 else min t.ble.dDem total * own / total
    let effort := match s.followInUse with
      | some f => (if f.bail then 0 else f.fill) * s.clp.working.airGain / 100
      | none => if counted = 0 then 0 else t.ble.aFill / counted
    (∀ k, let b := t.ble.trucks.get k
      b.dynTarget = (if own = 0 then 0 else share * b.capacity / own) ∧
      b.limited = if (s.tpc.get k).state = .fault then 0 else (effort * 100 - b.computedAir * s.clp.working.airGain) / 100) ∧
    (s.followInUse = none →
      t.ble.capacity = total ∧ t.ble.dAssign = min t.ble.dDem total ∧
      t.ble.aFill = if s.bail then 0 else t.ble.eAuto - t.ble.dAssign) ∧
    (∀ f, s.followInUse = some f →
      t.ble.dAssign = f.share ∧ t.ble.aFill = if f.bail then 0 else f.fill * s.clp.working.airGain * s.ownAirTrucks / 100) ∧
    (s.leading = true → t.ble.offered = some
      { shares := s.csl.roster.map (fun e => (e.ident, portion t.ble.dAssign e.counted total))
        fill := portion t.ble.aFill 1 counted * 100 / s.clp.working.airGain
        indep := if (s.chan 10).validity = .invalid then 0 else (s.chan 10).value
        emergency := s.es.latch
        bail := s.bail
        penalty := s.es.penalty
        master := s.ble.master }) ∧
    (s.leading = false → t.ble.offered = none))

/-- After a recompute a truck's ramped dynamic request never exceeds its capacity, and it is zero while the effective master
enable or the truck's enable is clear or its DB fault latched; else it falls at once to the capacity, or moves at DYN_RATE (R27;
that a step of an odd rate is truncated, on a rise and on a fall, is log 14). The air target of an air-capable truck is its demand
within the caps of R29, and the ramp moves to it at AIR_RATE or falls at once to the cap (R28 to R30; that no ramp step is added
at that fall, to the cap or to the capacity, and that a finite ceiling's cap takes the request of the same recompute, is log 17).
The channels take the ramped air target and the independent demand (R45). The truck's target before the ramp is its part of the
unit's share, that of R26 or the one received within capacity (R26, R41); the limited effort is what the air effort of a truck
leaves beyond the pressure computed, 0 with its channel in FAULT (R29). -/
def Obligations.RequestWithinCapacity : Prop :=
  ∀ (k : Truck) (s : State),
    let t := bleRecompute s
    let old := s.ble.trucks.get k
    let b := t.ble.trucks.get k
    let w := s.clp.working
    let moves (pos goal rate : Nat) : Nat := if pos < goal then min goal (pos + rate / 2) else max goal (pos - (rate + 1) / 2)
    let demand := match s.followInUse with
      | some f => if f.bail then 0 else f.fill
      | none => portion t.ble.aFill 1 s.countedTrucks * 100 / w.airGain
    let ceiling := match (s.am.trucks.get k).ceiling with
      | .unlimited => w.serviceMax
      | .finite centi => min w.serviceMax ((centi - b.request) * 10 / w.airGain)
    let cap := if s.am.known = false ∨ (s.am.trucks.get k).degraded = true then min ceiling 250 else ceiling
    b.request ≤ b.capacity * 10 ∧
    ((t.effectiveMaster = false ∨ b.enable = false ∨ b.dbFault = true) → b.request = 0) ∧
    (t.effectiveMaster = true → b.capacity * 10 < old.request → b.request = b.capacity * 10) ∧
    (t.effectiveMaster = true → old.request ≤ b.capacity * 10 →
      b.request = moves old.request (b.dynTarget * 10) w.dynRate) ∧
    b.handed = b.request ∧
    b.computedAir = (if (s.tpc.get k).state = .fault then 0 else min demand cap) ∧
    (cap * 100 < old.airTarget → b.airTarget = cap * 100) ∧
    (old.airTarget ≤ cap * 100 → b.airTarget = moves old.airTarget (b.computedAir * 100) w.airRate) ∧
    (t.tpc.get k).claims.air = b.airTarget / 100 ∧
    (t.tpc.get k).claims.indep = (match s.followInUse with
      | some f => f.indep
      | none => if (s.chan 10).validity = .invalid then 0 else (s.chan 10).value) ∧
    (t.tpc.get k).claims.slide = (s.tpc.get k).claims.slide ∧ (t.tpc.get k).claims.emergency = (s.tpc.get k).claims.emergency

/-- The blend state of R32: FAILSAFE with the link START or LOST, EMERGENCY under the latch, else by the own targets. What is
handed on for STATUS answers: the own capacity and achieved effort with the blend state and a fault flag for each truck whose
channel is in FAULT (R43); in FAILSAFE 0, with the ramps at 0, the shortfall states NORMAL and no set offered (R33, R40, R43).
That the hand-over is made at every recompute in every role, and that FAILSAFE keeps its channel fault flags, is log 18. -/
def Obligations.BlendStateShown : Prop :=
  ∀ s : State,
    (LinkState.connected s.flm.link = false → (bleUpdate s).ble.blend = .failsafe ∧ (bleUpdate s).ble.offered = none ∧
      (bleUpdate s).ble.handover = { s.ble.handover with capacity := 0, achieved := 0, blend := .failsafe } ∧
      ∀ k, let b := (bleUpdate s).ble.trucks.get k
        b.request = 0 ∧ b.airTarget = 0 ∧ b.shortfall = .normal ∧ b.below = none ∧ b.clear = none ∧ b.duration = 0 ∧
          b.enable = (s.ble.trucks.get k).enable ∧ b.dbFault = (s.ble.trucks.get k).dbFault) ∧
    (LinkState.connected s.flm.link = true →
      let t := bleUpdate s
      let dyn := t.ble.trucks.t1.dynTarget + t.ble.trucks.t2.dynTarget
      let air := t.ble.trucks.t1.computedAir + t.ble.trucks.t2.computedAir
      t.ble.handover = ⟨t.ble.trucks.t1.capacity + t.ble.trucks.t2.capacity, s.achieved .t1 + s.achieved .t2, t.ble.blend,
        ⟨s.tpc.t1.state == .fault, s.tpc.t2.state == .fault⟩⟩ ∧
      (s.es.latch = true → t.ble.blend = .emergency) ∧
      (s.es.latch = false →
        (dyn = 0 → air = 0 → t.ble.blend = .released) ∧ (0 < dyn → air = 0 → t.ble.blend = .dynamic) ∧
        (0 < dyn → 0 < air → t.ble.blend = .blended) ∧ (dyn = 0 → 0 < air → t.ble.blend = .air)))

/-- SHORTFALL_ENTRY, SHORTFALL_CLEAR and DB_FAULT_LATCH alone, where the timer stands reached (200 ms, 1 s, 5 s), and nothing
where it does not (R36 to R38, log 1). The below test of a recompute against the request as handed, with its timer and the entry
at 200 ms (R36); the clear test against the wanted request, the target of R26 at the open capacity of R24, with its timer and the
return at 1 s (R37); a recompute makes both and latches the fault where the duration has reached 5 s (R38). The order of these
steps, and the timers outside the state that counts them, are log 15. A latch inside a recompute raises DB_FAULT with request and
achieved effort, and the trigger BLEND_FAULT, T1 before T2 (R38; log 15). -/
def Obligations.ShortfallAndDbFault : Prop :=
  (∀ (k : Truck) (s : State), s.powered = true →
    let b := s.ble.trucks.get k
    let put (b : TruckBlend) : State := { s with ble := { s.ble with trucks := s.ble.trucks.set k b } }
    (∀ n, b.shortfall = .normal → b.below = some n → 200 ≤ n → effect (.shortfallEntry k none) s
      (put { b with shortfall := .shortfall, below := none, clear := none, duration := 0 })) ∧
    (∀ n, b.below = some n → n < 200 → effect (.shortfallEntry k none) s s) ∧
    (∀ n, b.shortfall = .shortfall → b.clear = some n → 1000 ≤ n → effect (.shortfallClear k none) s
      (put { b with shortfall := .normal, below := none, clear := none, duration := 0 })) ∧
    (∀ n, b.clear = some n → n < 1000 → effect (.shortfallClear k none) s s)) ∧
  (∀ (k : Truck) (s : State), s.powered = true →
    let b := s.ble.trucks.get k
    (b.shortfall = .shortfall → 5000 ≤ b.duration → effect (.dbFaultLatch k none) s
      (trigger .blendFault false (raise (.dbFault k (b.request / 10) (s.achieved k))
        { s with ble := { s.ble with trucks := s.ble.trucks.set k { b with dbFault := true, shortfall := .fault } } }))) ∧
    ((b.shortfall ≠ .shortfall ∨ b.duration < 5000) → effect (.dbFaultLatch k none) s s)) ∧
  (∀ (k : Truck) (s : State),
    let b := s.ble.trucks.get k
    let d := belowStep s k
    let below : Prop := 10 * s.achieved k + 500 < 9 * (b.handed / 10)
    (b.shortfall = .normal →
      (¬below → d = { b with below := none }) ∧ (below → b.below = none → d = { b with below := some 0 }) ∧
      (∀ n, below → b.below = some n →
        (n + 5 < 200 → d = { b with below := some (n + 5) }) ∧
        (200 ≤ n + 5 → d = { b with shortfall := .shortfall, below := none, clear := none, duration := 0 }))) ∧
    (b.shortfall = .shortfall → d = { b with duration := b.duration + 5 }) ∧ (b.shortfall = .fault → d = b)) ∧
  (∀ (k other : Truck) (s : State), other ≠ k →
    let b := s.ble.trucks.get k
    let d := clearStep s k
    let least := min (s.curveTerm k) (s.available k)
    let free := if s.effectiveMaster = false ∨ b.enable = false ∨ b.dbFault = true then 0
      else match (s.am.trucks.get k).ceiling with
        | .unlimited => least
        | .finite centi => min least (centi / 10)
    let clears : Prop := 95 * s.targetOf free (free + s.capacityOf other) ≤ 100 * s.achieved k
    (b.shortfall = .shortfall →
      (¬clears → d = { b with clear := none }) ∧ (clears → b.clear = none → d = { b with clear := some 0 }) ∧
      (∀ n, clears → b.clear = some n →
        (n + 5 < 1000 → d = { b with clear := some (n + 5) }) ∧
        (1000 ≤ n + 5 → d = { b with shortfall := .normal, below := none, clear := none, duration := 0 }))) ∧
    (b.shortfall ≠ .shortfall → d = b)) ∧
  (∀ (k : Truck) (s : State),
    let d := clearStep { s with ble := { s.ble with trucks := ⟨belowStep s .t1, belowStep s .t2⟩ } } k
    let b := (bleRecompute s).ble.trucks.get k
    let latches : Prop := d.shortfall = .shortfall ∧ 5000 ≤ d.duration
    (latches → b.shortfall = .fault ∧ b.dbFault = true) ∧
    (¬latches → b.shortfall = d.shortfall ∧ b.dbFault = d.dbFault) ∧
    b.below = d.below ∧ b.clear = d.clear ∧ b.duration = d.duration) ∧
  (∀ s : State,
    let t := bleRecompute s
    let d (k : Truck) : TruckBlend :=
      clearStep { s with ble := { s.ble with trucks := ⟨belowStep s .t1, belowStep s .t2⟩ } } k
    let u : State := { s with ble := { s.ble with trucks := ⟨d .t1, d .t2⟩ } }
    let latch (k : Truck) (v : State) : State :=
      if (d k).shortfall = .shortfall ∧ 5000 ≤ (d k).duration then
        trigger .blendFault false (raise (.dbFault k ((d k).request / 10) (s.achieved k))
          { v with ble := { v.ble with trucks := v.ble.trucks.set k { d k with dbFault := true, shortfall := .fault } } })
      else v
    t = { latch .t2 (latch .t1 u) with ble := t.ble, tpc := t.tpc })

/-! ## Truck pressure channels -/

/-- The table of R47: a channel's state and drivers at each decision, from the target of the same decision. -/
def Obligations.ChannelStateTable : Prop :=
  ∀ (k : Truck) (s : State),
    let c := s.tpc.get k
    let bc := s.chan k.bcChannel
    let d := (tpcDecide k s).tpc.get k
    let shows (st : ChannelState) (apply release : Bool) : Prop := d.state = st ∧ d.apply = apply ∧ d.release = release
    (LinkState.connected s.flm.link = false → shows .off false false) ∧
    (LinkState.connected s.flm.link = true →
      ((c.latch ≠ .clear ∨ bc.validity = .invalid) → shows .fault false false) ∧
      (c.latch = .clear → bc.validity ≠ .invalid → c.claims.slide = .dumping → shows .dumping false true) ∧
      (c.latch = .clear → bc.validity = .stale → c.claims.slide ≠ .dumping → shows .lapped false false) ∧
      (c.latch = .clear → bc.validity = .valid → c.claims.slide ≠ .dumping → d.latch = .clear →
        (bc.value + 10 < d.target → shows .applying true false) ∧
        (d.target + 10 < bc.value → shows .releasing false true) ∧
        (d.target ≤ bc.value + 10 → bc.value ≤ d.target + 10 → shows .lapped false false)) ∧
      (c.latch = .clear → d.latch ≠ .clear → shows .fault false false))

/-- The target of a channel that is not OFF, and 0 in OFF (R48). The settle ramp: none in FAULT, under the emergency claim or in a
dump; begun at BC by the first decision that reads SETTLING after DUMPING or REAPPLY_HOLD (the claims as read at decisions,
log 19); risen by 0.2 kPa at each later one; ended where it reaches the base (R49). In OFF the sensor fault clears at a
decision with BC VALID (R54). With the link up an INVALID BC raises CHANNEL_FAULT with cause BC_INVALID and the trigger
BLEND_FAULT at the decision that enters FAULT, and nothing at the later ones (R54). That the target of that decision is computed
with the ramp ended, and that a latched channel coming from OFF raises the notice, is log 37. -/
def Obligations.ChannelTarget : Prop :=
  ∀ (k : Truck) (s : State),
    let d := (tpcDecide k s).tpc.get k
    let c := s.tpc.get k
    let bc := s.chan k.bcChannel
    let base := max d.claims.air d.claims.indep
    let barred := c.latch ≠ .clear ∨ bc.validity = .invalid ∨ c.claims.emergency = true ∨ c.claims.slide = .dumping
    let starts := c.claims.slide = .settling ∧ (c.slideRead = .dumping ∨ c.slideRead = .reapplyHold)
    let upTo (v : Nat) : Option Nat := if base * 100 ≤ v then none else some v
    let level := s.clp.working.emergPressure
    (LinkState.connected s.flm.link = false → d.target = 0 ∧ d.claims.air = 0 ∧ d.claims.indep = 0 ∧ d.ramp = none ∧
      d.sensorFault = (c.sensorFault && decide (bc.validity ≠ .valid))) ∧
    (LinkState.connected s.flm.link = true → bc.validity = .invalid →
      let t : State := { s with tpc := s.tpc.set k d }
      (c.state ≠ .fault →
        tpcDecide k s = trigger .blendFault false (raise (.channelFault k .bcInvalid d.target bc.value) t)) ∧
      (c.state = .fault → tpcDecide k s = t)) ∧
    (LinkState.connected s.flm.link = true → d.claims = (s.tpc.get k).claims ∧
      (d.claims.emergency = true → d.target = max base level) ∧
      (∀ v, d.claims.emergency = false → d.ramp = some v → d.target = min base (v / 100)) ∧
      (d.claims.emergency = false → d.ramp = none → d.latch = (s.tpc.get k).latch → d.target = base) ∧
      d.sensorFault = decide (bc.validity = .invalid) ∧ d.slideRead = c.claims.slide ∧
      (barred → d.ramp = none) ∧
      (¬barred → d.latch = c.latch →
        (starts → d.ramp = upTo (bc.value * 100)) ∧
        (∀ v, ¬starts → c.ramp = some v → d.ramp = upTo (v + 20)) ∧
        (¬starts → c.ramp = none → d.ramp = none)))

/-- R53: supervision timer, progress reference and count are 0 outside APPLYING and RELEASING and after every change between
them; the decision that enters either takes BC as the reference and starts the timer from 0. -/
def Obligations.SupervisionReset : Prop :=
  ∀ (k : Truck) (s : State),
    let c := s.tpc.get k
    let d := (tpcDecide k s).tpc.get k
    (d.state ≠ .applying → d.state ≠ .releasing → d.window = 0 ∧ d.progressRef = 0 ∧ d.noProgress = 0) ∧
    ((d.state = .applying ∨ d.state = .releasing) → d.state ≠ c.state →
      d.window = 0 ∧ d.progressRef = (s.chan k.bcChannel).value ∧ d.noProgress = 0)

/-- SUPERVISION_WINDOW_END alone: after 1 s the progress is judged against 5 kPa, the reference takes BC and a new window begins
(R55). CHANNEL_FAULT_LATCH alone: at the count of 3 the channel latches its fault, with notice and trigger (R56); that the notice
carries and the channel keeps the target computed before the settle ramp ended is log 37. Nothing where the condition does not
stand reached (log 1). Inside a decision that stays in APPLYING or RELEASING: the window grows by 5 ms, at 1000 ms it is judged,
progress sets the count to 0, a third window without it latches NO_APPLY or NO_RELEASE with CHANNEL_FAULT and BLEND_FAULT, both
drivers off and supervision at 0 (R53, R55, R56). -/
def Obligations.SupervisionAndChannelFault : Prop :=
  (∀ (k : Truck) (s : State), s.powered = true →
    let c := s.tpc.get k
    let bc := (s.chan k.bcChannel).value
    let put (n : Nat) : State := { s with tpc := s.tpc.set k { c with noProgress := n, progressRef := bc, window := 0 } }
    (1000 ≤ c.window → c.state = .applying →
      (c.progressRef + 5 ≤ bc → effect (.supervisionWindowEnd k none) s (put 0)) ∧
      (bc < c.progressRef + 5 → effect (.supervisionWindowEnd k none) s (put (c.noProgress + 1)))) ∧
    (1000 ≤ c.window → c.state = .releasing →
      (bc + 5 ≤ c.progressRef → effect (.supervisionWindowEnd k none) s (put 0)) ∧
      (c.progressRef < bc + 5 → effect (.supervisionWindowEnd k none) s (put (c.noProgress + 1)))) ∧
    (c.window < 1000 → effect (.supervisionWindowEnd k none) s s)) ∧
  (∀ (k : Truck) (s : State), s.powered = true →
    let c := s.tpc.get k
    let latched (l : FaultLatch) (cause : ChannelFaultCause) : State :=
      trigger .blendFault false (raise (.channelFault k cause c.target (s.chan k.bcChannel).value)
        { s with tpc := s.tpc.set k { c with state := .fault, apply := false, release := false, ramp := none, latch := l,
                                             window := 0, progressRef := 0, noProgress := 0 } })
    (3 ≤ c.noProgress → c.latch = .clear → c.state = .applying →
      effect (.channelFaultLatch k none) s (latched .noApply .noApply)) ∧
    (3 ≤ c.noProgress → c.latch = .clear → c.state = .releasing →
      effect (.channelFaultLatch k none) s (latched .noRelease .noRelease)) ∧
    (c.noProgress < 3 → effect (.channelFaultLatch k none) s s)) ∧
  (∀ (k : Truck) (s : State),
    let c := s.tpc.get k
    let d := (tpcDecide k s).tpc.get k
    let bc := (s.chan k.bcChannel).value
    let put : State := { s with tpc := s.tpc.set k d }
    let applies : Prop := c.state = .applying ∧ bc + 10 < d.target
    let releases : Prop := c.state = .releasing ∧ d.target + 10 < bc
    let progress : Prop := applies ∧ c.progressRef + 5 ≤ bc ∨ releases ∧ bc + 5 ≤ c.progressRef
    let ends : Prop := 1000 ≤ c.window + 5
    LinkState.connected s.flm.link = true → c.latch = .clear → (s.chan k.bcChannel).validity = .valid →
      c.claims.slide ≠ .dumping → (applies ∨ releases) →
      let goesOn (window ref count : Nat) : Prop := tpcDecide k s = put ∧ d.state = c.state ∧ d.latch = .clear ∧
        d.window = window ∧ d.progressRef = ref ∧ d.noProgress = count
      let faults : Prop := d.state = .fault ∧ d.apply = false ∧ d.release = false ∧ d.ramp = none ∧ d.window = 0 ∧
        d.progressRef = 0 ∧ d.noProgress = 0 ∧
        (applies → d.latch = .noApply ∧
          tpcDecide k s = trigger .blendFault false (raise (.channelFault k .noApply d.target bc) put)) ∧
        (releases → d.latch = .noRelease ∧
          tpcDecide k s = trigger .blendFault false (raise (.channelFault k .noRelease d.target bc) put))
      (¬ends → c.noProgress < 3 → goesOn (c.window + 5) c.progressRef c.noProgress) ∧
      (ends → progress → goesOn 0 bc 0) ∧
      (ends → ¬progress → c.noProgress + 1 < 3 → goesOn 0 bc (c.noProgress + 1)) ∧
      (ends → ¬progress → 3 ≤ c.noProgress + 1 → faults))

/-- FAULT_CLEAR on a truck: CHANNEL clears the channel's latch by the table of R56, DB the DB fault latch (R39); both in BOTH.
A truck or clear value outside these gets BAD_VALUE; that these are undefined codes refused so is log 24, and that the row
FAULT_CLEAR with CHANNEL carries the undefined clear values is log 23. -/
def Obligations.FaultClearForms : Prop :=
  ∀ (tag n v : Byte) (k : Truck) (s : State),
    let f : ReqFrame := ⟨0x0E#8, tag, [n, v]⟩
    s.ready f →
    let r := arrive f s
    let c := s.tpc.get k
    let b := s.ble.trucks.get k
    let bc := (s.chan k.bcChannel).validity
    let chan : Tpc :=
      if c.latch ≠ .clear ∧ c.state = .fault ∧ bc ≠ .invalid then
        { c with latch := .clear, state := .lapped, apply := false, release := false,
                 target := Tpc.targetOf s.clp.working.emergPressure c }
      else if c.latch ≠ .clear ∧ (c.state = .fault ∨ c.state = .off) then { c with latch := .clear }
      else c
    let db : TruckBlend :=
      if b.dbFault then { b with dbFault := false, shortfall := .normal, below := none, clear := none, duration := 0 } else b
    (truckOf n.toNat = some k →
      (v = 0#8 → replies (.faultClearChannel tag [n, v]) s f .ok [] { r with tpc := s.tpc.set k chan }) ∧
      (v = 1#8 → replies (.faultClearDb tag [n, v]) s f .ok []
        { r with ble := { s.ble with trucks := s.ble.trucks.set k db } }) ∧
      (v = 2#8 → replies (.faultClearBoth tag [n, v]) s f .ok []
        { r with tpc := s.tpc.set k chan, ble := { s.ble with trucks := s.ble.trucks.set k db } }) ∧
      (2 < v.toNat → replies (.faultClearChannel tag [n, v]) s f .badValue [] r)) ∧
    (truckOf n.toNat = none →
      (v ≠ 1#8 → v ≠ 2#8 → replies (.faultClearChannel tag [n, v]) s f .badValue [] r) ∧
      (v = 1#8 → replies (.faultClearDb tag [n, v]) s f .badValue [] r) ∧
      (v = 2#8 → replies (.faultClearBoth tag [n, v]) s f .badValue [] r))

/-- DYNAMIC_ENABLE: a truck named in the mask takes its new enable, its DB fault latch clear and its shortfall state NORMAL;
the master enable is set when a named truck's enable is set; a truck not named keeps all (R35). -/
def Obligations.DynamicEnableTakes : Prop :=
  ∀ (tag m v : Byte) (s : State),
    let f : ReqFrame := ⟨0x0A#8, tag, [m, v]⟩
    s.ready f →
    let named (k : Truck) (i : Nat) : TruckBlend :=
      let b := s.ble.trucks.get k
      if m.getLsbD i then
        { b with enable := v.getLsbD i, dbFault := false, shortfall := .normal, below := none, clear := none, duration := 0 }
      else b
    replies (.dynamicEnable tag [m, v]) s f .ok []
      { arrive f s with ble := { s.ble with
        trucks := ⟨named .t1 0, named .t2 1⟩
        master := s.ble.master || (m.getLsbD 0 && v.getLsbD 0) || (m.getLsbD 1 && v.getLsbD 1) } }

/-! ## Adhesion -/

/-- V_ref with two or more candidates: braking, it is the highest of them, falls by no more than REF_DECEL_LIMIT × 0.005 s and
rises by no more than 0.005 km/h from a KNOWN value; not braking, it is the lower of the middle values; within 0 to 150 km/h;
where it was lost, REF_SPEED_BACK carries it (R63 to R65). With fewer it is UNKNOWN and keeps its value, with REF_SPEED_LOST once.
The candidates are the axles with a VALID speed that are not EXCLUDED, in axle order (R63). -/
def Obligations.ReferenceSpeedMoves : Prop :=
  ∀ s : State,
    (s.candidates = ([Axle.a1, .a2, .a3, .a4, .a5, .a6].filter (fun a =>
      decide ((s.chan a.channel).validity = .valid) && decide ((s.am.axles.get a).state ≠ .excluded))).map
        (fun a => (s.chan a.channel).value * 100)) ∧
    (2 ≤ s.candidates.length →
      let t := vrefStep s
      let u : State := { s with am := { s.am with vref := t.am.vref, known := true, lostNotified := false } }
      t.am.known = true ∧ t.am.lostNotified = false ∧ t.am.vref ≤ 1500000 ∧
      (s.braking = true → s.am.known = true → s.am.vref ≤ 1500000 →
        t.am.vref ≤ s.am.vref + 50 ∧ s.am.vref - s.clp.working.refDecelLimit * 5 ≤ t.am.vref) ∧
      (∀ high ∈ s.candidates, (∀ v ∈ s.candidates, v ≤ high) → s.braking = true →
        t.am.vref = min 1500000 (if s.am.known then
          min (s.am.vref + 50) (max (s.am.vref - s.clp.working.refDecelLimit * 5) high) else high)) ∧
      (∀ mid ∈ s.candidates, (s.candidates.filter (fun v => decide (v < mid))).length ≤ (s.candidates.length - 1) / 2 →
        (s.candidates.length - 1) / 2 < (s.candidates.filter (fun v => decide (v ≤ mid))).length → s.braking = false →
        t.am.vref = min 1500000 mid) ∧
      (s.am.lostNotified = false → t = u) ∧
      (s.am.lostNotified = true → t = raise (.refSpeedBack (t.am.vref / 100)) u)) ∧
    (s.candidates.length < 2 →
      let u : State := { s with am := { s.am with known := false, lostNotified := true } }
      (s.am.lostNotified = false → vrefStep s = raise (.refSpeedLost s.candidates.length (s.am.vref / 100)) u) ∧
      (s.am.lostNotified = true → vrefStep s = u))

/-- The axle events alone: SUSPECT to SLIDING at the third update, RECOVERY to ROLLING at 200 ms, EXCLUDED at an invalid count
of 3 or an over-speed time of 1 s, and back at 2 s (log 1). One AM update of an axle: the slide condition (R66) moves it by
R67 and R68; without a VALID speed it is held (R69); with V_ref UNKNOWN it goes to ROLLING (R65), and which of the two holds
for an axle without a VALID speed is the operand of the decision (log 41); the counts of exclusion (R70) and the return (R71). -/
def Obligations.AxleTransitions : Prop :=
  (∀ (a : Axle) (s : State), s.powered = true →
    let r := s.am.axles.get a
    let put (r : AxleRec) : State := { s with am := { s.am with axles := s.am.axles.set a r } }
    let cleared (st : AxleState) : AxleRec :=
      { r with state := st, confirm := 0, recovery := 0, invalid := 0, overSpeed := 0, ret := 0 }
    (r.state = .suspect → 3 ≤ r.confirm →
      effect (.axleSlideConfirm a none) s (put { r with state := .sliding, confirm := 0 })) ∧
    (r.state = .recovery → 200 ≤ r.recovery →
      effect (.axleRecoveryEnd a none) s (put { r with state := .rolling, recovery := 0 })) ∧
    (r.state ≠ .excluded → (3 ≤ r.invalid ∨ 1000 ≤ r.overSpeed) →
      effect (.axleExclude a none) s (put (cleared .excluded))) ∧
    (r.state = .excluded → 2000 ≤ r.ret → effect (.axleReturn a none) s (put (cleared .rolling)))) ∧
  (∀ (held braking : Bool) (a : Axle) (s : State),
    let w := s.clp.working
    let r := s.am.axles.get a
    let m := (axleStep held braking s).am.axles.get a
    let now := s.chan a.channel
    let slip : Int := (s.am.vref : Int) - (now.value * 100 : Nat)
    let slides : Prop :=
      slip > (w.slideAbs * 100 : Nat) ∧ slip * 100 > (w.slideRel * s.am.vref : Nat) ∨
        now.validity = .valid ∧ ∃ v x y z, r.history = [(v, .valid), x, y, z] ∧ now.value + 20 < v
    let goes (st : AxleState) (confirm recovery : Nat) : Prop :=
      m.state = st ∧ m.confirm = confirm ∧ m.recovery = recovery
    let invalid := if now.validity = .invalid then r.invalid + 1 else 0
    let overTime := if now.validity = .valid then
        (if s.am.known = true ∧ braking = true ∧ s.am.vref + 50000 < now.value * 100 then r.overSpeed + 5 else 0)
      else r.overSpeed
    m.history = (r.history ++ [(now.value, now.validity)]).drop (r.history.length + 1 - 4) ∧
    (r.state ≠ .excluded →
      (m.state = .excluded ↔ 3 ≤ invalid ∨ 1000 ≤ overTime) ∧
      (m.state ≠ .excluded →
        m.invalid = invalid ∧ m.overSpeed = overTime ∧
        (now.validity ≠ .valid → (s.am.known = true ∨ held = true) →
          goes r.state r.confirm r.recovery) ∧
        (s.am.known = false → (now.validity = .valid ∨ held = false) →
          (r.state = .rolling → goes .rolling r.confirm r.recovery) ∧ (r.state ≠ .rolling → goes .rolling 0 0)) ∧
        (s.am.known = true → now.validity = .valid →
          (r.state = .rolling → slides → goes .suspect 1 r.recovery) ∧
          (r.state = .rolling → ¬slides → goes .rolling r.confirm r.recovery) ∧
          (r.state = .suspect → slides → r.confirm < 2 → goes .suspect (r.confirm + 1) r.recovery) ∧
          (r.state = .suspect → slides → 2 ≤ r.confirm → goes .sliding 0 r.recovery) ∧
          (r.state = .suspect → ¬slides → goes .rolling 0 r.recovery) ∧
          (r.state = .sliding → slip < 5000 → goes .recovery r.confirm 0) ∧
          (r.state = .sliding → 5000 ≤ slip → goes .sliding r.confirm r.recovery) ∧
          (r.state = .recovery → slides → goes .sliding r.confirm 0) ∧
          (r.state = .recovery → ¬slides → slip < 5000 → r.recovery < 195 → goes .recovery r.confirm (r.recovery + 5)) ∧
          (r.state = .recovery → ¬slides → slip < 5000 → 195 ≤ r.recovery → goes .rolling r.confirm 0) ∧
          (r.state = .recovery → ¬slides → 5000 ≤ slip → goes .recovery r.confirm 0)))) ∧
    (r.state = .excluded →
      let near := now.validity = .valid ∧ -10000 ≤ slip ∧ slip ≤ 10000
      ((s.am.known = false ∨ now.validity = .stale) → r.ret < 2000 → m.state = .excluded ∧ m.ret = r.ret) ∧
      (s.am.known = true → near → r.ret < 1995 → m.state = .excluded ∧ m.ret = r.ret + 5) ∧
      (s.am.known = true → near → 1995 ≤ r.ret → m = { AxleRec.boot with history := m.history }) ∧
      (s.am.known = true → now.validity ≠ .stale → ¬near → m.state = .excluded ∧ m.ret = 0)))

/-- FORCED_REAPPLY alone: at its bound the dump ends in REAPPLY_HOLD with the count, notice and trigger SLIDE_PERSIST, the ceiling
kept (R75). SETTLE_END alone: after 1 s in SETTLING the correction is IDLE (R77). Both hand the claim (log 1). That the
dump timer and the settle timer stay as they stand is log 37. -/
def Obligations.ForcedReapplyAndSettleEnd : Prop :=
  (∀ (k : Truck) (s : State), s.powered = true →
    let c := s.am.trucks.get k
    let d : TruckSlide :=
      { c with correction := .reapplyHold, hold := 0, holdLimit := s.clp.working.reapplyHold,
               persist := min 65535 (c.persist + 1), latched := false }
    (c.correction = .dumping → c.dumpLimit ≤ c.dump → effect (.forcedReapply k none) s
      (handSlide (trigger .slidePersist false
        (raise (.slidePersist k (min 65535 (c.persist + 1)) c.onsetEffort c.ceiling)
          { s with am := { s.am with trucks := s.am.trucks.set k d } })))) ∧
    ((c.correction ≠ .dumping ∨ c.dump < c.dumpLimit) → effect (.forcedReapply k none) s (handSlide s))) ∧
  (∀ (k : Truck) (s : State), s.powered = true →
    let c := s.am.trucks.get k
    (c.correction = .settling → 1000 ≤ c.settle → effect (.settleEnd k none) s
      (handSlide { s with am := { s.am with trucks := s.am.trucks.set k { c with correction := .idle } } })) ∧
    ((c.correction ≠ .settling ∨ c.settle < 1000) → effect (.settleEnd k none) s (handSlide s)))

/-- REAPPLY_HOLD_END alone: DUMPING with a fresh onset when a slide request is latched and an axle slides with V_ref KNOWN,
SETTLING when one is latched and none does, else IDLE (R76, R73, R78, log 1). That
the hold timer stays as it stands is log 37. -/
def Obligations.ReapplyHoldEnds : Prop :=
  ∀ (k : Truck) (s : State), s.powered = true →
    let c := s.am.trucks.get k
    let request := (s.ble.trucks.get k).request
    let bc := if (s.chan k.bcChannel).validity = .invalid then 0 else (s.chan k.bcChannel).value
    let effort := (request * 10 + bc * s.clp.working.airGain) / 100
    let put (c : TruckSlide) : State := handSlide { s with am := { s.am with trucks := s.am.trucks.set k c } }
    c.correction = .reapplyHold → c.holdLimit ≤ c.hold →
      (c.latched = true → s.am.known = true → s.sliding k = true → ∃ ceiling, effect (.reapplyHoldEnd k none) s
        (put { c with correction := .dumping, onsetRequest := request, onsetEffort := effort, ceiling := .finite ceiling,
                      dump := 0, dumpLimit := s.clp.working.dumpLimit, settle := 0, latched := false }) ∧
        (c.ceiling = .unlimited →
          ceiling = 10 * max s.clp.working.ceilingFloor (s.clp.working.ceilingFactor * effort / 100)) ∧
        (∀ old, c.ceiling = .finite old → ceiling =
          10 * max s.clp.working.ceilingFloor (s.clp.working.ceilingFactor * min old (effort * 10) / 1000))) ∧
      (c.latched = true → (s.am.known = false ∨ s.sliding k = false) →
        effect (.reapplyHoldEnd k none) s (put { c with correction := .settling, settle := 0, latched := false })) ∧
      (c.latched = false → effect (.reapplyHoldEnd k none) s (put { c with correction := .idle, latched := false }))

/-- No correction stays in DUMPING at an update at which its dump timer reaches its bound, and one in REAPPLY_HOLD does not enter
DUMPING before its hold has run out (R75, R76). One update of a correction: from IDLE and SETTLING a sliding truck enters DUMPING
with onset effort, onset request and ceiling taken and the bound bound (R73); a dump goes on while the truck slides and goes to
SETTLING where it does not (R74); a hold latches a slide (R76); SETTLING ends after 1 s (R77). A dump at its bound goes to
REAPPLY_HOLD with the count, the notice and the trigger SLIDE_PERSIST, and no other update raises one (R75); at the end of its
hold a correction goes to DUMPING, to SETTLING or to IDLE by the latched request and the slide (R76). A truck slides with an axle
of its own SLIDING while it is not DEGRADED (R72, R73). With V_ref UNKNOWN no slide starts a dump or is latched, an AM update
enters no dump, and one in progress goes to SETTLING unless a SLIDING axle of the truck without a VALID speed is held (R65, R78;
which of R65 and R69 that axle follows is log 41). -/
def Obligations.DumpIsBounded : Prop :=
  (∀ (k : Truck) (s : State),
    let c := s.am.trucks.get k
    let d := (correctionStep k s).am.trucks.get k
    let request := (s.ble.trucks.get k).request
    let bc := if (s.chan k.bcChannel).validity = .invalid then 0 else (s.chan k.bcChannel).value
    let effort := (request * 10 + bc * s.clp.working.airGain) / 100
    let starts : Bool := s.am.known && s.sliding k
    let count := min 65535 (c.persist + 1)
    let bound : Prop := c.correction = .dumping ∧ s.sliding k = true ∧ c.dumpLimit ≤ c.dump + 5
    let put : State := { s with am := { s.am with trucks := s.am.trucks.set k d } }
    let held : TruckSlide := { c with hold := c.hold + 5, latched := c.latched || starts }
    let onsetOf (c : TruckSlide) : Prop := ∃ ceiling, d =
        { c with correction := .dumping, onsetRequest := request, onsetEffort := effort, ceiling := .finite ceiling,
                 dump := 0, dumpLimit := s.clp.working.dumpLimit, settle := 0, latched := false } ∧
      (c.ceiling = .unlimited →
        ceiling = 10 * max s.clp.working.ceilingFloor (s.clp.working.ceilingFactor * effort / 100)) ∧
      (∀ old, c.ceiling = .finite old → ceiling =
        10 * max s.clp.working.ceilingFloor (s.clp.working.ceilingFactor * min old (effort * 10) / 1000))
    let onset : Prop := onsetOf c
    (s.sliding k = true ↔ c.degraded = false ∧ ∃ a : Axle, Axle.truck a = k ∧ (s.am.axles.get a).state = .sliding) ∧
    (bound → d = { c with dump := c.dump + 5, correction := .reapplyHold, hold := 0, holdLimit := s.clp.working.reapplyHold,
                          persist := count, latched := false } ∧
      correctionStep k s = trigger .slidePersist false (raise (.slidePersist k count c.onsetEffort c.ceiling) put)) ∧
    (¬bound → correctionStep k s = put) ∧
    (c.correction = .dumping → c.dumpLimit ≤ c.dump + 5 → d.correction ≠ .dumping) ∧
    (c.correction = .reapplyHold → c.hold + 5 < c.holdLimit → d = held) ∧
    (c.correction = .reapplyHold → c.holdLimit ≤ c.hold + 5 →
      (held.latched = true → starts = true → onsetOf held) ∧
      (held.latched = true → starts = false → d = { held with correction := .settling, settle := 0, latched := false }) ∧
      (held.latched = false → d = { held with correction := .idle, latched := false })) ∧
    ((c.correction = .idle ∨ c.correction = .settling) → starts = true → onset) ∧
    (c.correction = .idle → starts = false → d = c) ∧
    (c.correction = .settling → starts = false →
      (c.settle + 5 < 1000 → d = { c with settle := c.settle + 5 }) ∧
      (1000 ≤ c.settle + 5 → d = { c with settle := c.settle + 5, correction := .idle })) ∧
    (c.correction = .dumping → s.sliding k = true → c.dump + 5 < c.dumpLimit → d = { c with dump := c.dump + 5 }) ∧
    (c.correction = .dumping → s.sliding k = false →
      d = { c with correction := .settling, settle := 0, dump := 0 })) ∧
  (∀ (held : Bool) (k : Truck) (s : State), LinkState.connected s.flm.link = true →
    let t := amUpdate held s
    let c := s.am.trucks.get k
    let d := t.am.trucks.get k
    let holds : Prop := held = true ∧
      ∃ a : Axle, Axle.truck a = k ∧ (s.am.axles.get a).state = .sliding ∧ (s.chan a.channel).validity ≠ .valid
    t.am.known = false →
      (c.correction ≠ .dumping → d.correction ≠ .dumping) ∧
      (c.correction = .dumping → ¬holds →
        d = { c with correction := .settling, settle := 0, dump := 0, degraded := d.degraded, sand := false }))

/-- Sand is requested while the correction is not IDLE, V_ref KNOWN and above 3.00 km/h; FAILSAFE clears it (R80, R81). A ceiling
rises at CEILING_RISE through an update that finds and leaves the correction IDLE, OPEN above 999.9 kN (R79; its position held
to 0.01 kN is log 14), and stands still while the correction goes on. A truck is DEGRADED while two or more of its axles are
EXCLUDED (R72). The channels take the correction as their slide claim (R61). FAILSAFE leaves every axle ROLLING with no count, timer
or history, every correction IDLE with its timers, latched request and onset values clear, no truck DEGRADED and no notice (R81). -/
def Obligations.SandRequests : Prop :=
  ∀ (held : Bool) (k : Truck) (s : State),
    (LinkState.connected s.flm.link = true →
      let t := amUpdate held s
      let c := s.am.trucks.get k
      let d := t.am.trucks.get k
      let rise := s.clp.working.ceilingRise / 2
      d.sand = (decide (d.correction ≠ .idle) && t.am.known && decide (30000 < t.am.vref)) ∧
      d.degraded = decide (2 ≤ ((t.am.axles.ofTruck k).filter (fun r => r.state == .excluded)).length) ∧
      (t.tpc.get k).claims.slide = d.correction ∧
      (c.correction = .idle → d.correction = .idle →
        (c.ceiling = .unlimited → d.ceiling = .unlimited) ∧
        (∀ n, c.ceiling = .finite n → d.ceiling = if 99990 < n + rise then .unlimited else .finite (n + rise))) ∧
      (c.correction ≠ .idle → d.correction ≠ .dumping → d.ceiling = c.ceiling) ∧
      (c.correction = .dumping → d.ceiling = c.ceiling)) ∧
    (LinkState.connected s.flm.link = false →
      let t := amUpdate held s
      let d := t.am.trucks.get k
      d.sand = false ∧ t.am.known = false ∧ t.am.vref = s.am.vref ∧ t.am.lostNotified = false ∧
      d.correction = .idle ∧ d.ceiling = (s.am.trucks.get k).ceiling ∧ d.persist = (s.am.trucks.get k).persist ∧
      d.degraded = false ∧ d.dump = 0 ∧ d.hold = 0 ∧ d.settle = 0 ∧ d.latched = false ∧
      d.onsetEffort = 0 ∧ d.onsetRequest = 0 ∧
      (∀ a, (t.am.axles.get a).state = .rolling ∧ (t.am.axles.get a).history = [] ∧ (t.am.axles.get a).confirm = 0 ∧
        (t.am.axles.get a).recovery = 0 ∧ (t.am.axles.get a).invalid = 0 ∧ (t.am.axles.get a).overSpeed = 0 ∧
        (t.am.axles.get a).ret = 0) ∧
      (t.tpc.get k).claims = { (s.tpc.get k).claims with slide := .idle } ∧ t.clp = s.clp ∧ t.cap = s.cap)

/-! ## Emergency and penalty -/

/-- R84: the pipe-rate test over the history and the reading of an update, and the PIPE_RATE flag that follows it at each
update (the exit of a FOLLOWING trail at the same update clears it again, R92, R93). -/
def Obligations.PipeRateTest : Prop :=
  (∀ (h : List (Nat × Validity)) (now : Channel), pipeRateTest h now = true ↔
    h.length = 20 ∧ (∀ e ∈ h, e.2 = .valid) ∧ now.validity = .valid ∧ ∃ e ∈ h, now.value + 6 ≤ e.1) ∧
  (∀ s : State, (causeStep s).es.pipeRate = pipeRateTest s.es.history (s.chan 8)) ∧
  (∀ s : State, s.following = false → (esUpdate s).es.pipeRate = pipeRateTest s.es.history (s.chan 8))

/-- The steps of an ES update: the charged flag sets at 300 kPa (R83); with the latch clear an entry, PIPE_RATE before PIPE_LOW
(R84, R85, R88); with it set a repeat trigger for each cause flag that newly sets (R89); the exit of a FOLLOWING trail on a clear
SHARE flag, 400 kPa and 60 s (R93; an offered set loses its emergency flag at it, log 42); then the history takes the reading, 20
at most (R83). A STATUS flag of a lead's entry that newly sets is the cause CONSIST (R86; on the record's edge alone, log 49).
EMERGENCY_APPLY is answered OK: an entry with the latch clear, a repeat trigger and nothing else with it set (R87, R89). -/
def Obligations.EmergencyCauses : Prop :=
  (∀ s : State,
    let history := s.es.history ++ [((s.chan 8).value, (s.chan 8).validity)]
    let leaves : Prop :=
      s.csl.role = .trail ∧ s.csl.follow = some .following ∧ s.es.latch = true ∧ s.es.shareFlag = some false ∧
        (s.chan 8).validity = .valid ∧ 400 ≤ (s.chan 8).value ∧ 60000 ≤ s.es.held
    chargedStep s = { s with es := { s.es with
      charged := s.es.charged || decide ((s.chan 8).validity = .valid ∧ 300 ≤ (s.chan 8).value) } } ∧
    historyStep s = { s with es := { s.es with history := history.drop (history.length - 20) } } ∧
    (leaves → exitStep s = raise (.emergencyOff s.es.cause (min 4294967295 s.es.held) .leadClear)
      { s with
        es := { s.es with latch := false, cause := .none, entryTime := none, held := 0, charged := false,
                          pipeRate := false, pipeLow := false, consist := false }
        tpc := ⟨{ s.tpc.t1 with claims := { s.tpc.t1.claims with emergency := false } },
                { s.tpc.t2 with claims := { s.tpc.t2.claims with emergency := false } }⟩
        ble := { s.ble with offered := s.ble.offered.map (fun o => { o with emergency := false }) } }) ∧
    (¬leaves → exitStep s = s) ∧
    esUpdate s = historyStep (exitStep (causeStep (chargedStep s)))) ∧
  (∀ s : State,
    let low : Bool := s.es.charged && decide ((s.chan 8).validity = .valid) && decide ((s.chan 8).value < 150)
    let rate := pipeRateTest s.es.history (s.chan 8)
    let u : State := { s with es := { s.es with pipeRate := rate, pipeLow := low } }
    let again (b : Bool) (t : State) : State := if b then trigger .emergency true t else t
    (s.es.latch = false → rate = true → causeStep s = emergencyEnter .pipeRate u) ∧
    (s.es.latch = false → rate = false → low = true → causeStep s = emergencyEnter .pipeLow u) ∧
    (s.es.latch = false → rate = false → low = false → causeStep s = u) ∧
    (s.es.latch = true → causeStep s = again (low && !s.es.pipeLow) (again (rate && !s.es.pipeRate) u))) ∧
  (∀ (ident : Nat) (flag : Bool) (s : State),
    let arises := flag = true ∧ (s.es.seen.find? (fun p => p.1 == ident)).map (fun p => p.2) ≠ some true
    let seen := s.es.seen.filter (fun p => p.1 != ident) ++ [(ident, flag)]
    let u (b : Bool) : State := { s with es := { s.es with seen := seen, consist := b && seen.any (fun p => p.2) } }
    (¬arises → esStatus ident flag s = u s.es.consist) ∧
    (arises → s.es.latch = false → esStatus ident flag s = emergencyEnter .consist (u true)) ∧
    (arises → s.es.latch = true → esStatus ident flag s = trigger .emergency true (u true))) ∧
  (∀ (tag : Byte) (s : State),
    let f : ReqFrame := ⟨0x0C#8, tag, []⟩
    s.ready f →
    (s.es.latch = false →
      replies (.emergencyApply tag []) s f .ok [] (emergencyEnter .hostApply (arrive f s))) ∧
    (s.es.latch = true → replies (.emergencyApply tag []) s f .ok [] (trigger .emergency true (arrive f s))))

/-- Emergency entry: latch, cause and time, the emergency claim in both channels with the target of each that is not OFF at
least EMERG_PRESSURE at once, dynamic brake dropped under DROP, notice and trigger (R88, R58, R34). -/
def Obligations.EmergencyEntry : Prop :=
  ∀ (cause : EntryCause) (s : State), ∃ u : State,
    emergencyEnter cause s =
      trigger .emergency false (raise (.emergencyOn cause (s.chan 8).value (s.chan 8).validity (s.am.vref / 100) s.am.known) u) ∧
    u = { s with es := u.es, tpc := u.tpc, ble := u.ble } ∧
    u.es = { s.es with latch := true, cause := cause, entryTime := some s.time, held := 0 } ∧
    (∀ k, (u.tpc.get k).claims = { (s.tpc.get k).claims with emergency := true } ∧
      (u.tpc.get k).state = (s.tpc.get k).state ∧ (u.tpc.get k).apply = (s.tpc.get k).apply ∧
      (u.tpc.get k).release = (s.tpc.get k).release ∧
      ((s.tpc.get k).state ≠ .off → (u.tpc.get k).ramp = none ∧ (u.tpc.get k).target =
        max (max (s.tpc.get k).claims.air (s.tpc.get k).claims.indep) s.clp.working.emergPressure)) ∧
    (s.clp.working.emergDynamic = .drop → u.ble = { s.ble with master := false, trucks := u.ble.trucks } ∧
      ∀ k, u.ble.trucks.get k = { s.ble.trucks.get k with request := 0 }) ∧
    (s.clp.working.emergDynamic = .keep → u.ble = s.ble)

/-- EMERGENCY_RESET: the five tests of R91 in order, and the exit of R92 with the channels left to their next
decision. That the set offered last loses its emergency flag there, so that the next SHARE has it clear (R92), is log 42. -/
def Obligations.EmergencyResetTests : Prop :=
  ∀ (tag : Byte) (s : State),
    let f : ReqFrame := ⟨0x0D#8, tag, []⟩
    s.ready f →
    let r := arrive f s
    let c : Instr := .emergencyReset tag []
    let follows := s.csl.role = .trail ∧ s.csl.follow = some .following
    let still := s.am.known = true ∧ s.am.vref < 5000
    let charged := (s.chan 8).validity = .valid ∧ 400 ≤ (s.chan 8).value
    (follows → replies c s f .wrongRole [] r) ∧
    (¬follows → s.es.latch = false → replies c s f .wrongState [] r) ∧
    (¬follows → s.es.latch = true → s.es.held < 60000 → replies c s f .holdTime [] r) ∧
    (¬follows → s.es.latch = true → 60000 ≤ s.es.held → ¬still → replies c s f .moving [] r) ∧
    (¬follows → s.es.latch = true → 60000 ≤ s.es.held → still → ¬charged → replies c s f .wrongState [] r) ∧
    (¬follows → s.es.latch = true → 60000 ≤ s.es.held → still → charged →
      replies c s f .ok [] (raise (.emergencyOff s.es.cause (min 4294967295 s.es.held) .reset)
        { r with
          es := { s.es with latch := false, cause := .none, entryTime := none, held := 0, charged := false,
                            pipeRate := false, pipeLow := false, consist := false }
          tpc := ⟨{ s.tpc.t1 with claims := { s.tpc.t1.claims with emergency := false } },
                  { s.tpc.t2 with claims := { s.tpc.t2.claims with emergency := false } }⟩
          ble := { s.ble with offered := s.ble.offered.map (fun o => { o with emergency := false }) } }))

/-- PENALTY_SET: BAD_VALUE for code 0; the first code latched with notice and trigger; a set latch keeps its code (R94).
PENALTY_CLEAR: the two tests of R95 in order, then the latch clear with PENALTY_OFF. -/
def Obligations.PenaltyRequests : Prop :=
  (∀ (tag code : Byte) (s : State),
    let f : ReqFrame := ⟨0x0B#8, tag, [code]⟩
    s.ready f →
    let r := arrive f s
    (code = 0#8 → replies (.penaltySet tag [code]) s f .badValue [] r) ∧
    (code ≠ 0#8 → s.es.penalty = true → replies (.penaltySet tag [code]) s f .ok [] r) ∧
    (code ≠ 0#8 → s.es.penalty = false → replies (.penaltySet tag [code]) s f .ok []
      (trigger .penalty false (raise (.penaltyOn code.toNat)
        { r with es := { s.es with penalty := true, penaltyCode := code.toNat } })))) ∧
  (∀ (tag : Byte) (s : State),
    let f : ReqFrame := ⟨0x0B#8, tag, []⟩
    s.ready f →
    let r := arrive f s
    let still := s.am.known = true ∧ s.am.vref < 5000
    (s.es.penalty = false → replies (.penaltyClear tag []) s f .wrongState [] r) ∧
    (s.es.penalty = true → ¬still → replies (.penaltyClear tag []) s f .moving [] r) ∧
    (s.es.penalty = true → still → replies (.penaltyClear tag []) s f .ok []
      (raise (.penaltyOff s.es.penaltyCode) { r with es := { s.es with penalty := false, penaltyCode := 0 } })))

/-! ## Capture -/

/-- SAMPLE_BLOCK_SEAL at the 4th tick: the block joins the ring, the 512 most recent kept, and the next one begins; the writer of
a CAPTURING record asks for a page write where none waits or is in progress and the next page's blocks are sealed (R130, R133,
R142). An overrun ends the window TRUNCATED and withdraws a waiting page write: CLOSING at once in CAPTURING with no page write in
progress, else the status is decided and the capture goes on (R143, R139). A block holds the 24 quantities of R131 (of the BLE's,
INVALID 0 in FAILSAFE; an unlimited ceiling as 65535) and the summary of R132. Beside these lists a block records of each truck
the target, the drivers and the BLE's and AM's values (R48, R50, R62, R36, R19, R61), D_dem and C (R19), and the penalty code
(R96; log 44). REPORT_DUE at its moment: the report takes the slot and the next moment is set, or none with interval 0 (R183, log
36). Before their time neither does anything (log 5). -/
def Obligations.TimedRows : Prop :=
  let asks (s : State) (fill : Word32) : Prop := s.cap.state = .capturing ∧ s.store.writer = none ∧
    (¬∃ slot page bs, s.store.port = some (.page slot page bs)) ∧
    ∃ r, s.cap.record = some r ∧ r.close = none ∧ r.copied < r.pre + r.post ∧
      min (r.copied + 4) (r.pre + r.post) ≤ (fill - (r.trigBlock - BitVec.ofNat 32 r.pre)).toNat
  ∀ s : State, s.powered = true →
    (let of (v : Nat) : Quantity := if LinkState.connected s.flm.link then ⟨v, .valid⟩ else ⟨0, .invalid⟩
      let ceiling (k : Truck) : Nat := match (s.am.trucks.get k).ceiling with
        | .unlimited => 65535
        | .finite centi => centi / 10
      s.quantities = (List.range 17).map (fun n => ⟨(s.chan n).value, (s.chan n).validity⟩) ++
        [⟨s.am.vref / 100, if s.am.known then .valid else .invalid⟩, of s.ble.eAuto, of s.ble.eDh, of s.ble.dAssign,
          of s.ble.aFill, ⟨ceiling .t1, .valid⟩, ⟨ceiling .t2, .valid⟩]) ∧
    (let truck (k : Truck) : TruckSummary :=
        ⟨(s.tpc.get k).state, (s.am.trucks.get k).correction, (s.ble.trucks.get k).request / 10⟩
      let axle (a : Axle) : AxleState := (s.am.axles.get a).state
      s.summary =
        { blend := s.ble.blend, trucks := ⟨truck .t1, truck .t2⟩
          axles := ⟨axle .a1, axle .a2, axle .a3, axle .a4, axle .a5, axle .a6⟩
          vrefKnown := s.am.known, link := s.flm.link, role := s.csl.role, follow := s.csl.follow, conflict := s.csl.conflict
          activeUnits := if s.csl.role = .lead then 1 + (s.csl.roster.filter (fun e => e.state == .active)).length else 1
          emergency := s.es.latch, cause := s.es.cause, penalty := s.es.penalty, master := s.ble.master
          sand := ⟨(s.am.trucks.get .t1).sand, (s.am.trucks.get .t2).sand⟩ }) ∧
    (4 ≤ s.cap.sealTicks → ∃ t : State, effect .sampleBlockSeal s t ∧
      t.cap.ring = (s.cap.ring ++
        [SampleBlock.mk s.cap.fill s.time s.quantities s.summary s.alsoRecorded s.cap.marks]).drop
          (s.cap.ring.length + 1 - 512) ∧
      s.alsoRecorded.penaltyCode = s.es.penaltyCode ∧ s.alsoRecorded.dDem = s.ble.dDem ∧
      s.alsoRecorded.capacity = s.ble.capacity ∧
      (∀ k, let d := s.alsoRecorded.trucks.get k
        d.target = (s.tpc.get k).target ∧ d.apply = s.applyDriver k ∧ d.release = s.releaseDriver k ∧
          d.capacity = (s.ble.trucks.get k).capacity ∧ d.dynTarget = (s.ble.trucks.get k).dynTarget ∧
          d.computedAir = (s.ble.trucks.get k).computedAir ∧ d.airTarget = (s.ble.trucks.get k).airTarget / 100 ∧
          d.limited = (s.ble.trucks.get k).limited ∧ d.dbFault = (s.ble.trucks.get k).dbFault ∧
          d.shortfall = (s.ble.trucks.get k).shortfall ∧
          d.enable = (s.ble.trucks.get k).enable ∧ d.degraded = (s.am.trucks.get k).degraded ∧
          d.onset = (s.am.trucks.get k).onsetRequest / 10) ∧
      t.cap.fill = s.cap.fill + 1 ∧ t.cap.sealTicks = s.cap.sealTicks - 4 ∧ t.cap.marks = 0 ∧
      t.cap.waiting = s.cap.waiting ∧ t.cap.dropped = s.cap.dropped ∧ t.cap.storeFull = s.cap.storeFull ∧
      t = { s with cap := t.cap, store := t.store } ∧
      (s.overruns = false → t.cap.state = s.cap.state ∧ t.cap.record = s.cap.record ∧
        (asks s t.cap.fill → t.store = { s.store with writer := some .page }) ∧ (¬asks s t.cap.fill → t.store = s.store)) ∧
      (∀ r, s.overruns = true → s.cap.record = some r →
        let ended : OpenRecord := { r with close := some .truncated }
        let u : Store := { s.store with writer := if s.store.writer = some .page then none else s.store.writer }
        (s.cap.state = .capturing → (¬∃ slot page bs, s.store.port = some (.page slot page bs)) →
          t.cap.state = .closing ∧ t.cap.record = some ended ∧
          t.store = { u with
            dirQueue := s.store.dirQueue ++ [⟨r.slot, .closing⟩]
            dir := s.store.dir.set r.slot
              ⟨.closing, (s.entry r.slot).record.map (fun i => { i with close := some .truncated })⟩ }) ∧
        ((s.cap.state = .allocating ∨ ∃ slot page bs, s.store.port = some (.page slot page bs)) →
          t.cap.state = s.cap.state ∧ t.cap.record = some ended ∧ t.store = u))) ∧
    (s.overruns = true ↔ ∃ oldest rest r, s.cap.ring = oldest :: rest ∧ s.cap.record = some r ∧ 512 ≤ s.cap.ring.length ∧
      r.close = none ∧ (s.cap.state = .allocating ∨ s.cap.state = .capturing) ∧
      r.copied ≤ (oldest.seq - (r.trigBlock - BitVec.ofNat 32 r.pre)).toNat ∧
      (oldest.seq - (r.trigBlock - BitVec.ofNat 32 r.pre)).toNat < r.pre + r.post) ∧
    (s.cap.sealTicks < 4 → effect .sampleBlockSeal s s) ∧
    (∀ n : Int, s.clp.reportIn = some n → n ≤ 0 → s.clp.working.reportInterval ≠ 0 →
      effect .reportDue s { s with clp := { s.clp with
        reportSlot := some (s.statusContent (s.time - BitVec.ofNat 32 (-n).toNat))
        reportIn := some (n + s.clp.working.reportInterval) } }) ∧
    (∀ n : Int, s.clp.reportIn = some n → n ≤ 0 → s.clp.working.reportInterval = 0 →
      effect .reportDue s { s with clp := { s.clp with reportIn := none } }) ∧
    (∀ n : Int, s.clp.reportIn = some n → 0 < n → effect .reportDue s s)

/-- The completions of the capture writer's operations: a verified page counts its blocks, and the next page is asked
for once its blocks are sealed and none waits, as at the entry to CAPTURING; a failed one ends the capture STORE_ERROR, the last one
COMPLETE, and a page that ends after TRUNCATED leaves that status (R142 to R145, R157; that a failed
page stands with a bad check is log 26); a reclaim erase leads to the opening entry (R151), the opening entry to CAPTURING or a
decided close (R139), the closing entry to CLOSED with RECORD_CLOSED and to the pending triggers (R145): the first one
granted a slot opens with its own items and the blocks of the ring older than its own, those within its window become its
secondaries, the others stay pending, and a refused one gives way to the next (R146). -/
def Obligations.CaptureCompletions : Prop :=
  (∀ s : State, s.powered = true →
    let ready (r : OpenRecord) : Prop := s.store.writer = none ∧ r.copied < r.pre + r.post ∧
      min (r.copied + 4) (r.pre + r.post) ≤ (s.cap.fill - (r.trigBlock - BitVec.ofNat 32 r.pre)).toNat
    let idle : Store := { s.store with port := none }
    let asking : Store := { idle with writer := some .page }
    let closes (c : CloseStatus) (r : OpenRecord) (j : Option RecordInfo) (t : State) : Prop :=
      t.cap = { s.cap with state := .closing, record := some { r with close := some c } } ∧
        t.store = { idle with dir := s.store.dir.set r.slot ⟨.closing, j.map (fun i => { i with close := some c })⟩
                              dirQueue := s.store.dirQueue ++ [⟨r.slot, .closing⟩] }
    (∀ slot page bs v r i, s.store.port = some (.page slot page bs) → s.cap.record = some r → r.slot = slot →
      slot < s.store.dir.length → (s.entry slot).record = some i →
      let j : RecordInfo := if v then { i with blocks := i.blocks + bs.length } else i
      let counted : List DirEntry := s.store.dir.set slot { s.entry slot with record := some j }
      ∃ t : State, effect (.pageWriteDone v) s t ∧ t.store.port = none ∧
        pagesRead t.nv.pages (slot * 320 + page) = some ⟨bs, v⟩ ∧
        (∀ a, a ≠ slot * 320 + page → pagesRead t.nv.pages a = pagesRead s.nv.pages a) ∧
        t.nv.stored = s.nv.stored ∧ t.nv.area = s.nv.area ∧
        ((t.entry slot).record.map (fun j => j.blocks)) = some (if v then i.blocks + bs.length else i.blocks) ∧
        (∀ c, r.close = some c → closes c r (some j) t) ∧ (r.close = none → v = false → closes .storeError r (some j) t) ∧
        (r.close = none → v = true → r.pre + r.post ≤ r.copied → closes .complete r (some j) t) ∧
        (r.close = none → v = true → r.copied < r.pre + r.post → s.cap.state = .capturing → t.cap = s.cap ∧
          (ready r → t.store = { asking with dir := counted }) ∧ (¬ready r → t.store = { idle with dir := counted })) ∧
        t = { s with cap := t.cap, store := t.store, nv := t.nv }) ∧
    (∀ slot, s.store.port = some (.reclaimErase slot) → effect .reclaimEraseDone s
      { s with
        store := { s.store with port := none, writer := some .opening,
                                dir := s.store.dir.set slot { s.entry slot with state := .capturing } }
        nv := { s.nv with pages := pagesErase slot s.nv.pages, stored := s.nv.stored.set slot .free } }) ∧
    (∀ slot i r, s.store.port = some (.opening slot i) → s.cap.record = some r →
      ∃ t : State, effect .openingEntryWritten s t ∧
        t = { s with cap := t.cap, store := t.store, nv := { s.nv with stored := s.nv.stored.set slot (.capturing i) } } ∧
        (r.close = none → t.cap = { s.cap with state := .capturing } ∧
          (ready r → t.store = asking) ∧ (¬ready r → t.store = idle)) ∧
        (∀ c, r.close = some c → closes c r (s.entry r.slot).record t)) ∧
    (∀ slot i c, s.store.port = some (.dir ⟨slot, .closing⟩ i) → i.close = some c →
      let u : State := raise (.recordClosed i.number slot c i.blocks i.source i.isProtected)
        { s with
          store := { s.store with port := none, dir := s.store.dir.set slot { s.entry slot with state := .closed } }
          nv := { s.nv with stored := s.nv.stored.set slot (.closed i) } }
      effect .closingEntryWritten s
        (takePending s.cap.waiting { u with cap := { u.cap with state := .idle, record := none } }))) ∧
  (∀ s : State, takePending [] s = s) ∧
  (∀ (p : PendingTrigger) (rest : List PendingTrigger) (s : State),
    let ago (b : Word32) : Nat := (s.cap.fill - b).toNat
    let pre := min p.pre (s.cap.ring.filter (fun b => decide (ago p.block < ago b.seq))).length
    let v := openCapture p pre { s with cap := { s.cap with waiting := rest } }
    let t := takePending (p :: rest) s
    (∀ slot, s.store.nextNumber ≤ 4294967295 →
      (s.freeSlot = some slot ∨ s.freeSlot = none ∧ ∃ old, s.reclaimSlot = some (slot, old)) →
      v.cap.record = some ⟨s.store.nextNumber, slot, p.source, p.block, p.time, pre, p.post, p.mask, 0, none⟩) ∧
    (s.freeSlot = none → s.reclaimSlot = none →
      v = raise (.storeFull p.source p.time (min 65535 (s.cap.storeFull + 1)))
        { s with cap := { s.cap with waiting := rest, storeFull := min 65535 (s.cap.storeFull + 1) } }) ∧
    (v.cap.record = none → t = takePending rest v) ∧
    (∀ r, v.cap.record = some r →
      let offset (q : PendingTrigger) : Nat := (q.block - (r.trigBlock - BitVec.ofNat 32 r.pre)).toNat
      t.cap = { v.cap with waiting := rest.filter (fun q => decide (r.pre + r.post ≤ offset q)) } ∧
      t = { v with cap := t.cap, store := { v.store with dir := t.store.dir } } ∧
      ∀ i, r.slot < v.store.dir.length → (v.entry r.slot).record = some i → (t.entry r.slot).record =
        some ((rest.filter (fun q => decide (offset q < r.pre + r.post))).foldl
          (fun i q => addSecondary q.source (offset q) i) i)))

/-- MARK: WRONG_STATE without a trigger while not enabled; else the HOST_MARK trigger, answered by what becomes of it
(R135): OK in IDLE on a FREE or a reclaimed slot, STORE_FULL where neither stands or no record number is left (R137, R138). -/
def Obligations.MarkReplies : Prop :=
  ∀ (tag : Byte) (s : State),
    let f : ReqFrame := ⟨0x0F#8, tag, []⟩
    let r := arrive f s
    let m : Instr := .mark tag []
    s.ready f →
    (s.clp.working.admits .hostMark = false → replies m s f .wrongState [] r) ∧
    (s.clp.working.admits .hostMark = true →
      let t := trigger .hostMark false r
      (s.cap.state = .idle → s.store.nextNumber ≤ 4294967295 → (s.freeSlot.isSome = true ∨ s.reclaimSlot.isSome = true) →
        replies m s f .ok [] t) ∧
      (s.cap.state = .idle → s.cap.record = none →
        (4294967295 < s.store.nextNumber ∨ s.freeSlot = none ∧ s.reclaimSlot = none) → replies m s f .storeFull [] t) ∧
      (∀ o, (s.cap.state = .allocating ∨ s.cap.state = .capturing) → s.cap.record = some o →
        let offset := (s.cap.fill - (o.trigBlock - BitVec.ofNat 32 o.pre)).toNat
        (offset < o.pre + o.post → replies m s f .ok [] t) ∧
        (o.pre + o.post ≤ offset → s.cap.waiting.length < 4 → replies m s f .ok [] t) ∧
        (o.pre + o.post ≤ offset → 4 ≤ s.cap.waiting.length → replies m s f .busy [] t)) ∧
      (s.cap.state = .closing → s.cap.waiting.length < 4 → replies m s f .ok [] t) ∧
      (s.cap.state = .closing → 4 ≤ s.cap.waiting.length → replies m s f .busy [] t))

/-! ## The consist line -/

/-- A consist cycle of the lead starts every 8th tick with the ages raised and the first exchange begun (R104, R105, R117), acting
late where its row is late (log 5). What it sends on its idle line: the next exchange of the cycle with its SHARE, an identity no
longer held passed over (R105), then, while an opening of the cycle's 4 is left, the ENROL pending or the ROLL of the top range
(R104, R121); nothing with a RELEASE owed, in CONFLICT or in another role (R113, R119). With no set offered a cycle makes no
exchange, and outside a roll call no opening (R105, R121). The end of a frame opens its window or frees the line (R98, R106); a
RELEASE owed is sent on the idle line, not by a lead in CONFLICT (R102, R113, R119), those owed one after another (log 22). -/
def Obligations.LeadSends : Prop :=
  (∀ s : State,
    let share (i : Nat) (o : ShareSet) : ConsistFrame :=
      ⟨s.ownIdentity, i, .share s.csl.cycle (((o.shares.find? (fun p => p.1 == i)).map (fun p => p.2)).getD 0)
        o.fill o.indep o.emergency o.bail o.penalty o.master⟩
    let free : Prop := s.csl.role = .lead ∧ s.csl.conflict = false ∧ s.csl.line = .idle ∧ s.csl.releases = []
    let made : Prop := s.ble.offered = none ∨ ∀ j ∈ s.csl.todo, s.rosterEntry j = none
    let u : State := { s with csl := { s.csl with todo := [] } }
    let opens (r : RollCall) (f : ConsistFrame) (w : Window) : State :=
      { u with csl := { u.csl with openings := s.csl.openings - 1, roll := some r, line := .sending f (some w) } }
    (¬free → lineNext s = s) ∧
    (∀ o passed i rest, free → s.ble.offered = some o → s.csl.todo = passed ++ i :: rest →
      (∀ j ∈ passed, s.rosterEntry j = none) → s.rosterEntry i ≠ none → lineNext s =
        { s with csl := { s.csl with todo := rest, line := .sending (share i o) (some (.exchange i s.csl.cycle)) } }) ∧
    (free → made → (s.csl.roll = none ∨ s.csl.openings = 0) → lineNext s = u) ∧
    (∀ r, free → made → s.csl.roll = some r → 0 < s.csl.openings →
      (∀ p, r.pendingEnrol = some p → lineNext s = opens r ⟨s.ownIdentity, p.ident, .enrol⟩ (.enrol p.ident)) ∧
      (∀ l h rest, r.pendingEnrol = none → r.stack = (l, h) :: rest → lineNext s =
        opens { r with stack := rest } ⟨s.ownIdentity, 4294967295, .roll l h⟩ (.roll l h)) ∧
      (r.pendingEnrol = none → r.stack = [] → lineNext s = u))) ∧
  ∀ s : State, s.powered = true →
    (s.csl.role = .lead → 8 ≤ s.csl.cycleTicks →
      let n : Word16 := if s.csl.cycleBegun then s.csl.cycle + 1 else s.csl.cycle
      let roster := s.csl.roster.map (fun e =>
        { e with last := e.last.map (fun l => { l with age := min 65535 (l.age + 1) }) })
      let due := (roster.filter (fun e => e.state == .active || n.toNat % 10 == 0)).map (fun e => e.ident)
      ∃ t : State, effect .consistCycleStart s t ∧ t = { s with csl := t.csl } ∧
        t = lineNext { s with csl := { s.csl with
          cycleTicks := s.csl.cycleTicks - 8, cycle := n, cycleBegun := true, roster := roster
          todo := if s.csl.conflict = true ∨ s.ble.offered = none then [] else due
          openings := if s.csl.roll ≠ none ∧ s.csl.conflict = false then 4 else 0 } } ∧
        t.csl.cycle = n ∧ t.csl.cycleTicks = s.csl.cycleTicks - 8 ∧ t.csl.cycleBegun = true ∧ t.csl.roster = roster ∧
        t.csl.role = .lead ∧ t.csl.conflict = s.csl.conflict ∧ t.csl.releases = s.csl.releases ∧
        (s.csl.conflict = true → t.csl.line = s.csl.line ∧ t.csl.roll = s.csl.roll) ∧
        (∀ o i rest, s.csl.conflict = false → s.csl.line = .idle → s.csl.releases = [] → s.ble.offered = some o →
          due = i :: rest →
          t.csl.line = .sending ⟨s.ownIdentity, i, .share n (((o.shares.find? (fun p => p.1 == i)).map (fun p => p.2)).getD 0)
            o.fill o.indep o.emergency o.bail o.penalty o.master⟩ (some (.exchange i n)) ∧ t.csl.todo = rest)) ∧
    ((s.csl.role ≠ .lead ∨ s.csl.cycleTicks < 8) → effect .consistCycleStart s s) ∧
    (∀ f w, s.csl.line = .sending f (some w) →
      effect .consistFrameSent s { s with csl := { s.csl with line := .window w } }) ∧
    (∀ f, s.csl.line = .sending f none → s.csl.role ≠ .lead →
      effect .consistFrameSent s { s with csl := { s.csl with line := .idle } }) ∧
    (∀ f, s.csl.line = .sending f none → s.csl.role = .lead →
      effect .consistFrameSent s (lineNext { s with csl := { s.csl with line := .idle } })) ∧
    (∀ o rest, s.csl.line = .idle → s.csl.releases = o :: rest →
      ((s.csl.role ≠ .lead ∨ s.csl.conflict = false) → effect .releaseTransmit s
        { s with csl := { s.csl with releases := rest, line := .sending ⟨o.source, o.dest, .release⟩ none } }) ∧
      (s.csl.role = .lead → s.csl.conflict = true → effect .releaseTransmit s s))

/-- The decision of an exchange: a good answer is one clean STATUS of the entry, to this lead, for this cycle, in time (R106); it
is stored and clears the misses, and anything else but a foreign lead's frame (ConflictEntered) is a miss; at the third miss the
entry is LOST with UNIT_LOST, at the third good answer of a LOST entry it is ACTIVE with UNIT_JOINED, and a miss of a LOST entry
clears its good answers (R107, R108). A STATUS of an entry that is ACTIVE, or becomes so, is handed to the ES before the notice
(R86, R108), and the lead goes on with what it next sends (LeadSends). With its window each row is the decision of that window,
where the entry's state so goes, else it leaves the state. The rows UNIT_LOST and UNIT_JOINED alone and with an operand are log 1,
the ES before UNIT_JOINED log 39, and that an entry that rejoins keeps its recorded flag, with no cause where that stood set, log
49. -/
def Obligations.ExchangeDecided : Prop :=
  (∀ (own i : Nat) (n : Word16) (taken : List LineRx) (l : LastStatus), goodStatus own i n taken = some l ↔
    ∃ rx cap ach b1 b2 fl bl, taken = [rx] ∧ rx.inTime = true ∧
      cleanFrame rx = some ⟨i, own, .status n cap ach b1 b2 fl bl⟩ ∧ l = ⟨cap, ach, b1, b2, fl, bl, 0⟩) ∧
  (∀ (i : Nat) (e : Entry) (s : State), s.powered = true → s.rosterEntry i = some e →
    (∀ n taken, s.csl.line = .window (.exchange i n) → s.foreignTaken taken = none →
      let decides (t : State) : Prop := effect (.exchangeDecision taken) s (lineNext t)
      let put (f : Entry → Entry) : State := { s with csl := { s.csl with
        line := .idle, roster := s.csl.roster.map (fun x => if x.ident = i then f x else x) } }
      (∀ l, goodStatus s.ownIdentity i n taken = some l →
        let stored (x : Entry) : Entry := { x with miss := 0, good := if x.state = .lost then x.good + 1 else x.good, last := some l }
        (e.state = .active → decides (esStatus i l.flags.emergency (put stored))) ∧
        (e.state = .lost → e.good + 1 < 3 → decides (put stored)) ∧
        (e.state = .lost → 3 ≤ e.good + 1 → decides (raise (.unitJoined i l.capacity)
          (esStatus i l.flags.emergency (put (fun x => { stored x with state := .active, good := 0 })))))) ∧
      (goodStatus s.ownIdentity i n taken = none →
        let missed (x : Entry) : Entry :=
          { x with miss := min 255 (x.miss + 1), good := if x.state = .lost then 0 else x.good }
        let lost : Prop := e.state = .active ∧ 3 ≤ min 255 (e.miss + 1)
        (¬lost → decides (put missed)) ∧
        (lost → decides (trigger .unitLost false (raise (.unitLost i ((e.last.map (fun l => l.capacity)).getD 0) s.csl.cycle)
          (put (fun x => { missed x with state := .lost, good := 0 })))))) ∧
      (∀ l, goodStatus s.ownIdentity i n taken = some l → ∃ t : State, effect (.exchangeDecision taken) s t ∧
        t.rosterEntry i = some
          (if e.state = .active then { e with miss := 0, last := some l }
          else if 3 ≤ e.good + 1 then { e with state := .active, miss := 0, good := 0, last := some l }
          else { e with miss := 0, good := e.good + 1, last := some l }) ∧
        t.flm = s.flm ∧ t.am = s.am ∧ t.nv = s.nv ∧ (l.flags.emergency = false → t.ble = s.ble ∧ t.tpc = s.tpc)) ∧
      (goodStatus s.ownIdentity i n taken = none → ∃ t : State, effect (.exchangeDecision taken) s t ∧
        t.rosterEntry i = some
          (if e.state = .lost then { e with miss := min 255 (e.miss + 1), good := 0 }
          else if 3 ≤ min 255 (e.miss + 1) then { e with miss := min 255 (e.miss + 1), state := .lost, good := 0 }
          else { e with miss := min 255 (e.miss + 1) }) ∧
        sameBraking s t ∧ t.es = s.es ∧ t.nv = s.nv)) ∧
    (e.state = .active → 3 ≤ e.miss → effect (.unitLost i none) s
      (trigger .unitLost false (raise (.unitLost i ((e.last.map (fun l => l.capacity)).getD 0) s.csl.cycle)
        { s with csl := { s.csl with roster := s.csl.roster.map (fun x =>
          if x.ident = i then { x with state := .lost, good := 0 } else x) } }))) ∧
    (∀ l, e.state = .lost → 3 ≤ e.good → e.last = some l → effect (.unitJoined i none) s
      (raise (.unitJoined i l.capacity) (esStatus i l.flags.emergency
        { s with csl := { s.csl with roster := s.csl.roster.map (fun x =>
          if x.ident = i then { x with state := .active, good := 0 } else x) } }))) ∧
    (∀ taken,
      let t := windowDecision taken s
      let goes (x y : EntryState) : Prop := e.state = x ∧ ∃ f, t.rosterEntry i = some f ∧ f.state = y
      (∀ j n, s.csl.line = .window (.exchange j n) → t = exchangeDecision taken s) ∧
      (∀ l h, s.csl.line = .window (.roll l h) → t = rollDecision taken s) ∧
      (∀ j, s.csl.line = .window (.enrol j) → t = enrolDecision taken s) ∧
      (goes .active .lost → effect (.unitLost i (some taken)) s t) ∧ (¬goes .active .lost → effect (.unitLost i (some taken)) s s) ∧
      (goes .lost .active → effect (.unitJoined i (some taken)) s t) ∧
      (¬goes .lost .active → effect (.unitJoined i (some taken)) s s)))

/-- The decisions of the roll call: a window is empty, or has one clean answer in time of an identity in its range, or is garbled;
an empty range is dropped, a garbled one halved or, of one identity, reported and dropped, the own identity taken out of its
range, a clean answer pends its enrolment or ends the call ROSTER_FULL (R122, R124, R125); an ENROL succeeds with a new entry, or
puts a held one back to ACTIVE, fails an attempt, or at the third failure excludes the identity (R123, R124). The lead then goes
on with what it next sends (`lineNext`). A window that took a foreign lead's frame is in ConflictEntered. The row ENROL_EXCLUDE
alone and with an operand is log 1; a stack of any length is log 46; the counts and the enrolment sequence without bound are log
25; that an ENROL window with other activity beside its ENROL_ACK fails is log 48; that an entry put back keeps its recorded flag
is log 49. -/
def Obligations.RollCallDecided : Prop :=
  (∀ (own l h : Nat) (taken : List LineRx),
    (rollOutcome own l h taken = .empty ↔ taken = []) ∧
    (∀ i, rollOutcome own l h taken = .clean i ↔ ∃ rx, taken = [rx] ∧ rx.inTime = true ∧
      cleanFrame rx = some ⟨i, own, .rollAnswer i⟩ ∧ l ≤ i ∧ i ≤ h)) ∧
  (∀ (r : RollCall) (s : State), s.powered = true → s.csl.roll = some r →
    let quiet (roll : Option RollCall) : State := { s with csl := { s.csl with line := .idle, roll := roll } }
    let ended (st : RollStatus) (failed : Nat) (t : State) : State :=
      raise (.rollCallDone st r.found failed) { t with csl := { t.csl with roll := none, openings := 0 } }
    let parts (l h i : Nat) : List (Nat × Nat) :=
      (if l < i then [(l, i - 1)] else []) ++ (if i < h then [(i + 1, h)] else []) ++ r.stack
    (∀ l h taken, s.csl.line = .window (.roll l h) → s.foreignTaken taken = none →
      let decides (t : State) : Prop := effect (.rollDecision taken) s (lineNext t)
      (taken = [] → r.stack ≠ [] → decides (quiet (some r))) ∧
      (taken = [] → r.stack = [] → r.pendingEnrol = none → decides (ended .complete r.failed (quiet none))) ∧
      (rollOutcome s.ownIdentity l h taken = .garbled → l < h →
        decides (quiet (some { r with stack := (l, l + (h - l) / 2) :: (l + (h - l) / 2 + 1, h) :: r.stack }))) ∧
      (rollOutcome s.ownIdentity l h taken = .garbled → h ≤ l → r.stack ≠ [] →
        decides (raise (.duplicateIdentity l) (quiet (some r)))) ∧
      (rollOutcome s.ownIdentity l h taken = .garbled → h ≤ l → r.stack = [] → r.pendingEnrol = none →
        decides (ended .complete r.failed (raise (.duplicateIdentity l) (quiet none)))) ∧
      (rollOutcome s.ownIdentity l h taken = .clean s.ownIdentity →
        (parts l h s.ownIdentity ≠ [] → decides (quiet (some { r with stack := parts l h s.ownIdentity }))) ∧
        (parts l h s.ownIdentity = [] → r.pendingEnrol = none → decides (ended .complete r.failed (quiet none)))) ∧
      (∀ i, rollOutcome s.ownIdentity l h taken = .clean i → i ≠ s.ownIdentity →
        ((s.rosterEntry i ≠ none ∨ s.csl.roster.length < 5) →
          decides (quiet (some { r with pendingEnrol := some ⟨i, l, h, 0⟩ }))) ∧
        (s.rosterEntry i = none → 5 ≤ s.csl.roster.length → decides (ended .rosterFull r.failed (quiet none))))) ∧
    (∀ p taken, s.csl.line = .window (.enrol p.ident) → r.pendingEnrol = some p → s.foreignTaken taken = none →
      let decides (t : State) : Prop := effect (.enrolDecision taken) s (lineNext t)
      let done : Option RollCall :=
        some { r with stack := (p.low, p.high) :: r.stack, pendingEnrol := none, found := r.found + 1 }
      let again : State := { quiet done with csl := { (quiet done).csl with roster := s.csl.roster.map (fun e =>
        if e.ident = p.ident then { e with state := .active, miss := 0, good := 0, last := none } else e) } }
      (enrolAcked s.ownIdentity p.ident taken = true ↔ ∃ rx, taken = [rx] ∧ rx.inTime = true ∧
        cleanFrame rx = some ⟨p.ident, s.ownIdentity, .enrolAck⟩) ∧
      (enrolAcked s.ownIdentity p.ident taken = true →
        (s.rosterEntry p.ident = none → decides { quiet done with csl := { (quiet done).csl with
          enrolSeq := s.csl.enrolSeq + 1
          roster := s.csl.roster ++ [⟨p.ident, .active, 0, 0, s.csl.enrolSeq + 1, none⟩] } }) ∧
        (∀ e, s.rosterEntry p.ident = some e →
          (e.state = .active → decides again) ∧ (e.state = .lost → decides (raise (.unitJoined p.ident 0) again)))) ∧
      (enrolAcked s.ownIdentity p.ident taken = false →
        (p.attempts + 1 < 3 → decides (quiet
          (some { r with pendingEnrol := some { p with attempts := p.attempts + 1 } }))) ∧
        (3 ≤ p.attempts + 1 → parts p.low p.high p.ident ≠ [] → decides (quiet
          (some { r with stack := parts p.low p.high p.ident, pendingEnrol := none, failed := r.failed + 1 }))) ∧
        (3 ≤ p.attempts + 1 → parts p.low p.high p.ident = [] →
          decides (ended .complete (r.failed + 1) (quiet none))))) ∧
    (∀ p, r.pendingEnrol = some p → 3 ≤ p.attempts →
      (parts p.low p.high p.ident ≠ [] → effect (.enrolExclude none) s { s with csl := { s.csl with
        roll := some { r with stack := parts p.low p.high p.ident, pendingEnrol := none, failed := r.failed + 1 } } }) ∧
      (parts p.low p.high p.ident = [] → effect (.enrolExclude none) s (ended .complete (r.failed + 1) s))) ∧
    (∀ taken,
      let t := enrolDecision taken s
      let excluded : Prop := (∃ i, s.csl.line = .window (.enrol i)) ∧ (∃ p, r.pendingEnrol = some p ∧ 2 ≤ p.attempts) ∧
        ∀ q, t.csl.roll = some q → q.failed = r.failed + 1
      (excluded → effect (.enrolExclude (some taken)) s t) ∧ (¬excluded → effect (.enrolExclude (some taken)) s s)))

/-- A lead that takes a clean SHARE, ROLL, ENROL or RELEASE from a foreign source goes into CONFLICT (R112, R113): the shares are
withdrawn, an open window is decided as a miss (of an exchange, of an ENROL; log 38) and left, a running roll call ends
COMPLETE, and LEAD_CONFLICT is raised, in that order. The row LEAD_CONFLICT does it at the frame; the decision of an exchange, of a
ROLL or of an ENROL does it where its window took such a frame whole, of several the first (R106, R112). -/
def Obligations.ConflictEntered : Prop :=
  let entered (f : ConsistFrame) (s : State) : State :=
    let quiet : State :=
      { s with csl := { s.csl with conflict := true, todo := [], openings := 0, line := .idle }
               ble := { s.ble with offered := none } }
    let missed := match s.csl.line with
      | .window (.exchange i _) => exchangeMiss i quiet
      | .window (.enrol _) =>
        { quiet with csl := { quiet.csl with roll := quiet.csl.roll.map (fun (r : RollCall) => r.failedAttempt.exclude) } }
      | _ => quiet
    let ended := match missed.csl.roll with
      | none => missed
      | some r => raise (.rollCallDone .complete r.found r.failed)
          { missed with csl := { missed.csl with roll := none, openings := 0 } }
    raise (.leadConflict f.source f.body.kind s.csl.cycle) ended
  let foreign (s : State) (rx : LineRx) (f : ConsistFrame) : Prop :=
    cleanFrame rx = some f ∧ f.body.leadOwned = true ∧ f.source ≠ s.ownIdentity
  (∀ (rx : LineRx) (f : ConsistFrame) (s : State), s.powered = true → s.csl.role = .lead → s.csl.conflict = false →
    s.dir = false → foreign s rx f →
    effect (.leadConflict rx) s (entered f s) ∧
    (∃ t : State, effect (.leadConflict rx) s t ∧ t.csl.conflict = true ∧ t.csl.role = .lead ∧ t.ble.offered = none ∧
      t.csl.roll = none ∧ t.csl.line = .idle ∧ t.csl.cycle = s.csl.cycle ∧ sameBase s t ∧ t.flm = s.flm ∧ t.tpc = s.tpc ∧
      t.am = s.am ∧ t.es = s.es ∧ { t.ble with offered := s.ble.offered } = s.ble) ∧
    (s.csl.line = .idle → s.csl.roll = none → effect (.leadConflict rx) s
      (raise (.leadConflict f.source f.body.kind s.csl.cycle)
        { s with csl := { s.csl with conflict := true, todo := [], openings := 0 }
                 ble := { s.ble with offered := none } }))) ∧
  (∀ (taken : List LineRx) (s : State), s.powered = true →
    (∀ f, s.foreignTaken taken = some f ↔ ∃ before rx after, taken = before ++ rx :: after ∧ rx.inTime = true ∧
      foreign s rx f ∧ ∀ b ∈ before, b.inTime = true → ∀ g, ¬foreign s b g) ∧
    (∀ f, s.foreignTaken taken = some f →
      (∀ i n, s.csl.line = .window (.exchange i n) → effect (.exchangeDecision taken) s (entered f s)) ∧
      (∀ l h, s.csl.line = .window (.roll l h) → s.csl.roll ≠ none → effect (.rollDecision taken) s (entered f s)) ∧
      (∀ i, s.csl.line = .window (.enrol i) → s.csl.roll ≠ none → effect (.enrolDecision taken) s (entered f s))))

/-- What a trail takes: a SHARE of its lead makes it FOLLOWING and is answered by a STATUS (R109, R110); a ROLL over its identity
is answered while not enrolled (R126); an ENROL enrols and is acknowledged (R127); a RELEASE of its lead ends the enrolment (R128;
that the last SHARE's emergency flag goes with it is log 21); silence above 200 ms takes it to LOCAL with LEAD_SILENT (R111, log
4), acting late where its row is late (log 5). A SHARE accepted in LOCAL raises LEAD_RESUMED first (R111); one that carries the
emergency flag while the CONSIST flag is clear is the cause CONSIST, an entry with the latch clear and a repeat trigger with it
set (R86, R88, R89); the STATUS is built after both, its seven flags from their owners (R110). -/
def Obligations.TrailReceives : Prop :=
  ∀ (rx : LineRx) (s : State), s.powered = true → s.csl.role = .trail →
    (∀ c d f i e b p m, s.dir = false → s.csl.enrolled = true →
      cleanFrame rx = some ⟨s.csl.leadId, s.ownIdentity, .share c d f i e b p m⟩ →
      ∃ t : State, effect (.shareAccept rx) s t ∧ t.csl.follow = some .following ∧ t.csl.silence = some 0 ∧
        t.csl.shareCycle = c ∧ t.ble.follow = some ⟨d, f, i, b, m⟩ ∧ t.es.shareFlag = some e ∧ t.es.consist = e ∧
        t.csl.line = .sending ⟨s.ownIdentity, s.csl.leadId, .status c s.ble.handover.capacity s.ble.handover.achieved
          (s.chan 6).value (s.chan 7).value t.statusFlags (BitVec.ofNat 8 s.ble.handover.blend.code)⟩ none ∧
        t.statusFlags = ⟨⟨decide ((s.am.trucks.get .t1).correction ≠ .idle), decide ((s.am.trucks.get .t2).correction ≠ .idle)⟩,
          t.es.latch, s.ble.handover.fault, !LinkState.connected s.flm.link, false⟩ ∧
        t.csl.roster = s.csl.roster ∧ t.csl.enrolled = true ∧ t.csl.leadId = s.csl.leadId ∧ t.flm = s.flm ∧ t.am = s.am ∧
        t.nv = s.nv ∧ (e = false → { t.ble with follow := s.ble.follow } = s.ble ∧ t.tpc = s.tpc) ∧
        (let u : State := if s.csl.follow = some .inLocal then raise (.leadResumed s.csl.leadId c) s else s
          let v : State := { u with
            csl := { s.csl with follow := some .following, silence := some 0, shareCycle := c }
            ble := { s.ble with follow := some ⟨d, f, i, b, m⟩ }
            es := { s.es with shareFlag := some e, consist := e } }
          let arises := e = true ∧ s.es.consist = false
          let answered (w : State) : State := { w with csl := { v.csl with line := t.csl.line } }
          (¬arises → t = answered v) ∧
          (arises → s.es.latch = false → t = answered (emergencyEnter .consist v)) ∧
          (arises → s.es.latch = true → t = answered (trigger .emergency true v)))) ∧
    (∀ src dst l h, s.dir = false → cleanFrame rx = some ⟨src, dst, .roll l h⟩ →
      (s.csl.enrolled = false → l ≤ s.ownIdentity → s.ownIdentity ≤ h → effect (.rollReceive rx) s
        { s with csl := { s.csl with line := .sending ⟨s.ownIdentity, src, .rollAnswer s.ownIdentity⟩ none } }) ∧
      ((s.csl.enrolled = true ∨ s.ownIdentity < l ∨ h < s.ownIdentity) → effect (.rollReceive rx) s s)) ∧
    (∀ src, s.dir = false → cleanFrame rx = some ⟨src, s.ownIdentity, .enrol⟩ →
      (s.csl.enrolled = false → effect (.enrolReceive rx) s { s with csl := { s.csl with
        enrolled := true, leadId := src, follow := some .waiting, silence := none,
        line := .sending ⟨s.ownIdentity, src, .enrolAck⟩ none } }) ∧
      (s.csl.enrolled = true → s.csl.leadId = src → effect (.enrolReceive rx) s { s with csl := { s.csl with
        line := .sending ⟨s.ownIdentity, src, .enrolAck⟩ none } }) ∧
      (s.csl.enrolled = true → s.csl.leadId ≠ src → effect (.enrolReceive rx) s s)) ∧
    (∀ dst, s.dir = false → s.csl.enrolled = true → cleanFrame rx = some ⟨s.csl.leadId, dst, .release⟩ →
      (dst = s.ownIdentity ∨ dst = 4294967295) → effect (.releaseReceive rx) s
        { s with csl := { s.csl with enrolled := false, leadId := 0, follow := some .waiting, silence := none }
                 ble := { s.ble with follow := none }
                 es := { s.es with shareFlag := none } }) ∧
    (∀ n, s.csl.follow = some .following → s.csl.silence = some n →
      (200 < n → effect .leadSilent s (raise (.leadSilent s.csl.leadId s.csl.shareCycle)
        { s with csl := { s.csl with follow := some .inLocal, silence := none } })) ∧
      (n ≤ 200 → effect .leadSilent s s))

/-- SET_ROLE: accepted with the blend state RELEASED or FAILSAFE or the unit stationary, else WRONG_STATE; the effects of R102
and R103 by the role left and the role taken, each the whole next state (R101): leaving LEAD ends a running roll call with
ROLL_CALL_DONE, abandons an open window, empties the roster with its recorded flags and withdraws the shares; leaving TRAIL drops
enrolment, follow inputs and the last SHARE's flag. The RELEASE frames that earlier leavings owe stay owed, those of
ROSTER_RELEASE fall away, and none is added in CONFLICT (log 22). On leaving TRAIL the CONSIST cause flag stays (log 21). -/
def Obligations.RoleRequests : Prop :=
  ∀ (tag : Byte) (s : State),
    let off : ReqFrame := ⟨0x06#8, tag, [0#8]⟩
    let lead : ReqFrame := ⟨0x06#8, tag, [1#8]⟩
    let trail : ReqFrame := ⟨0x06#8, tag, [2#8]⟩
    let may := s.ble.blend = .released ∨ s.ble.blend = .failsafe ∨ s.am.known = true ∧ s.am.vref < 5000
    let leadLeft (r : State) : State :=
      let u : State := match s.csl.roll with
        | none => r
        | some q => raise (.rollCallDone .complete q.found q.failed) { r with csl := { s.csl with roll := none, openings := 0 } }
      { u with
        csl := { u.csl with
          line := (match s.csl.line with
            | .sending f _ => .sending f none
            | _ => .idle)
          releases := s.csl.releases.filter (fun o => o.leaving) ++
            (if s.csl.conflict then [] else [⟨s.ownIdentity, 4294967295, true⟩])
          roster := [], conflict := false, cycleTicks := 0, todo := [], openings := 0 }
        ble := { s.ble with offered := none }
        es := { s.es with seen := [], consist := false } }
    let trailLeft (r : State) : State :=
      { r with
        csl := { s.csl with enrolled := false, leadId := 0, follow := none, silence := none }
        ble := { s.ble with follow := none }
        es := { s.es with shareFlag := none } }
    let leads (u : State) : State :=
      { u with
        csl := { u.csl with
          role := .lead, conflict := false, cycle := 0, cycleTicks := 7, cycleBegun := false, roster := [], enrolSeq := 0
          roll := none, openings := 0, todo := [], enrolled := false, leadId := 0 }
        es := { u.es with consist := s.es.consist && s.es.seen.any (fun p => p.2) } }
    let trails (u : State) : State :=
      { u with csl := { u.csl with role := .trail, enrolled := false, leadId := 0, follow := some .waiting, silence := none } }
    let offs (u : State) : State := { u with csl := { u.csl with role := .offline } }
    (¬may → (s.ready off → replies (.setRoleOffline tag [0#8]) s off .wrongState [] (arrive off s)) ∧
      (s.ready lead → replies (.setRoleLead tag [1#8]) s lead .wrongState [] (arrive lead s)) ∧
      (s.ready trail → replies (.setRoleTrail tag [2#8]) s trail .wrongState [] (arrive trail s))) ∧
    (may → s.ready lead →
      let r := arrive lead s
      (s.csl.role = .lead → replies (.setRoleLead tag [1#8]) s lead .ok [] { r with csl := { s.csl with conflict := false } }) ∧
      (s.csl.role = .offline → replies (.setRoleLead tag [1#8]) s lead .ok [] (leads r)) ∧
      (s.csl.role = .trail → replies (.setRoleLead tag [1#8]) s lead .ok [] (leads (trailLeft r)))) ∧
    (may → s.ready trail →
      let r := arrive trail s
      (s.csl.role = .trail → replies (.setRoleTrail tag [2#8]) s trail .ok [] r) ∧
      (s.csl.role = .offline → replies (.setRoleTrail tag [2#8]) s trail .ok [] (trails r)) ∧
      (s.csl.role = .lead → replies (.setRoleTrail tag [2#8]) s trail .ok [] (trails (leadLeft r)))) ∧
    (may → s.ready off →
      let r := arrive off s
      (s.csl.role = .offline → replies (.setRoleOffline tag [0#8]) s off .ok [] r) ∧
      (s.csl.role = .trail → replies (.setRoleOffline tag [0#8]) s off .ok [] (offs (trailLeft r))) ∧
      (s.csl.role = .lead → replies (.setRoleOffline tag [0#8]) s off .ok [] (offs (leadLeft r))))

/-- ROLL_CALL is ACCEPTED with the whole range on the stack (R120); ROSTER_READ answers by the role, a lead with its roll-call
state and each entry in roster order, in the layout of section 12.2, and changes nothing (R118); ROSTER_RELEASE takes the named
entries off with their recorded flags and owes one RELEASE (R119); each with its refusals in order. That the RELEASE joins the end
of those owed is log 22. -/
def Obligations.RosterRequests : Prop :=
  ∀ (tag : Byte) (p : List Byte) (s : State),
    let call : ReqFrame := ⟨0x07#8, tag, []⟩
    let read : ReqFrame := ⟨0x08#8, tag, []⟩
    let rel : ReqFrame := ⟨0x09#8, tag, p⟩
    (s.ready call →
      let answers (st : ReplyStatus) (t : State) : Prop := replies (.rollCall tag []) s call st [] t
      let r := arrive call s
      (s.csl.role ≠ .lead → answers .wrongRole r) ∧
      (s.csl.role = .lead → s.csl.conflict = true → answers .wrongState r) ∧
      (s.csl.role = .lead → s.csl.conflict = false → s.csl.roll ≠ none → answers .busy r) ∧
      (s.csl.role = .lead → s.csl.conflict = false → s.csl.roll = none → answers .accepted
        { r with csl := { s.csl with roll := some ⟨[(1, 4294967294)], none, 0, 0⟩ } })) ∧
    (s.ready read → replies (.rosterRead tag []) s read .ok s.rosterContent (arrive read s)) ∧
    (let entry (e : Entry) : List Byte :=
        u32 e.ident ++ u8 (if e.state = .active then 0 else 1) ++ u8 e.miss ++ u8 e.good ++ u32 e.seq ++
          match e.last with
          | none => List.replicate 13 0#8
          | some l => [1#8] ++ u16 l.capacity ++ u16 l.achieved ++ u16 l.bc1 ++ u16 l.bc2 ++ u8 l.flags.byte ++ [l.blend] ++
              u16 l.age
      let call : List Byte := match s.csl.roll with
        | none => List.replicate 12 0#8
        | some r => [1#8] ++ u8 r.stack.length ++
            (match r.pendingEnrol with
              | none => List.replicate 6 0#8
              | some p => [1#8] ++ u32 p.ident ++ u8 p.attempts) ++ u16 r.found ++ u16 r.failed
      (s.csl.role = .offline → s.rosterContent = [0#8]) ∧
      (∀ f, s.csl.role = .trail → s.csl.follow = some f →
        s.rosterContent = [2#8] ++ flagByte s.csl.enrolled ++ u32 s.csl.leadId ++ u8 f.code) ∧
      (s.csl.role = .lead → s.rosterContent.length = 21 + 24 * s.csl.roster.length ∧
        s.rosterContent = [1#8] ++ flagByte s.csl.conflict ++ wordBytes s.csl.cycle ++ u32 s.csl.enrolSeq ++ call ++
          u8 s.csl.roster.length ++ s.csl.roster.flatMap entry)) ∧
    (s.ready rel → p.length = 4 →
      let answers (st : ReplyStatus) (t : State) : Prop := replies (.rosterRelease tag p) s rel st [] t
      let r := arrive rel s
      let n := rd32 p 0
      let may := s.ble.blend = .released ∨ s.ble.blend = .failsafe ∨ s.am.known = true ∧ s.am.vref < 5000
      let free := s.csl.role = .lead ∧ s.csl.conflict = false ∧ s.csl.roll = none
      (s.csl.role ≠ .lead → answers .wrongRole r) ∧
      (s.csl.role = .lead → s.csl.conflict = true → answers .wrongState r) ∧
      (s.csl.role = .lead → s.csl.conflict = false → s.csl.roll ≠ none → answers .busy r) ∧
      (free → ¬may → answers .wrongState r) ∧
      (free → may → n ≠ 4294967295 → s.rosterEntry n = none → answers .badValue r) ∧
      (free → may → (n = 4294967295 ∨ s.rosterEntry n ≠ none) →
        let seen := s.es.seen.filter (fun e => !(n == 4294967295 || e.1 == n))
        ∃ t : State, answers .ok t ∧ t = { r with csl := t.csl, es := t.es } ∧
          t.es = { s.es with seen := seen, consist := s.es.consist && seen.any (fun e => e.2) } ∧
          t.csl = { s.csl with roster := s.csl.roster.filter (fun e => !(n == 4294967295 || e.ident == n))
                               releases := s.csl.releases ++ [⟨s.ownIdentity, n, false⟩] } ∧
          t.es.seen = s.es.seen.filter (fun e => !(n == 4294967295 || e.1 == n)) ∧ t.es.latch = s.es.latch))

/-! ## The control link -/

/-- A frame of any kind, tag and payload up to 248 bytes, received whole, joins the end of the request queue, or is discarded and
counted while the queue holds 4 (R177, R179). A frame is abandoned and counted at a length byte below 2 or above 250, at a
character with its stop bit at space, at a CRC that does not match, each of which is hunted again from the byte after the start
byte, and at a character after a gap, which is then examined as a possible start byte (R177). Hunting discards every other
character; that a start byte with its stop bit at space begins no frame is log 43, that a gap is tested before the stop bit is log
39, and that one row takes all that its characters bring is log 28. -/
def Obligations.RequestReception : Prop :=
  (∀ s : State, s.powered = true → s.begun = true → s.clp.receiver = [] →
    (∀ (kind tag : Byte) (payload : List Byte), payload.length ≤ 248 →
      let c : Instr := .requestReceived (cleanChars (controlFrame kind tag payload))
      (s.clp.queue.length < 4 →
        effect c s { s with clp := { s.clp with queue := s.clp.queue ++ [⟨kind, tag, payload⟩]
                                                badFrames := min 65535 s.clp.badFrames } }) ∧
      (4 ≤ s.clp.queue.length →
        effect c s { s with clp := { s.clp with discarded := min 65535 (s.clp.discarded + 1)
                                                badFrames := min 65535 s.clp.badFrames } })) ∧
    (∀ n : Byte, (n.toNat < 2 ∨ 250 < n.toNat) →
      effect (.controlFrameAbandoned (cleanChars [0x5A#8, n])) s
        { s with clp := { s.clp with badFrames := min 65535 (s.clp.badFrames + 1) } })) ∧
  (∀ (cs : List RxChar) (s : State), s.powered = true → s.begun = true →
    let r := hunt (s.clp.receiver ++ cs)
    let t := r.frames.foldl (fun t f => enqueue f t)
      { s with clp := { s.clp with receiver := r.left, badFrames := min 65535 (s.clp.badFrames + r.bad) } }
    (0 < r.bad → effect (.controlFrameAbandoned cs) s t) ∧ (r.bad = 0 → effect (.controlFrameAbandoned cs) s s) ∧
    (r.frames ≠ [] → effect (.requestReceived cs) s t) ∧ (r.frames = [] → effect (.requestReceived cs) s s)) ∧
  (∀ (bs : List Byte) (c : RxChar) (rest : List RxChar),
    let n := rd8 bs 0
    let framed := cleanChars (0x5A#8 :: bs)
    let opens : Prop := bs = [] ∨ 2 ≤ n ∧ n ≤ 250 ∧ bs.length < n + 3
    (opens → c.gap = false → c.stopOk = false →
      hunt (framed ++ c :: rest) = abandonedThen (hunt (cleanChars bs ++ c :: rest))) ∧
    (opens → c.gap = true → hunt (framed ++ c :: rest) = abandonedThen (hunt (c :: rest))) ∧
    (bs.length = 1 → (n < 2 ∨ 250 < n) → hunt (framed ++ rest) = abandonedThen (hunt (cleanChars bs ++ rest))) ∧
    (2 ≤ n → n ≤ 250 → bs.length = n + 3 → bs.drop (n + 1) ≠ wordBytes (crc16 (bs.take (n + 1))) →
      hunt (framed ++ rest) = abandonedThen (hunt (cleanChars bs ++ rest))) ∧
    (opens → (hunt framed).left = framed ∧ (hunt framed).bad = 0 ∧ (hunt framed).frames = []) ∧
    ((c.stopOk = false ∨ c.byte ≠ 0x5A#8) → hunt (c :: rest) = hunt rest))

/-- The first three tests of R178 decide the reply of every request row, and change no other state: unknown kind (position 1 and
the kind received), a length the kind does not allow, an undefined sub-code (position 2). A request that cannot be taken, or a
frame of another row, is not taken (log 23). The length of each kind, and of each item of CONFIG_WRITE (R178, R197); that of a
configuration request with an undefined item is log 24. The sub-codes that are defined (R178). A request is taken with the line's
queue empty or at its head while none is held and no reply waits (R179). -/
def Obligations.RequestFirstTests : Prop :=
  (∀ (tag : Byte) (p : List Byte),
    let n := rd8 p 0
    let known : Prop := 1 ≤ n ∧ n ≤ 29
    let allowed (kind : Byte) : Prop := lengthAllowed ⟨kind, tag, p⟩ = true
    let defined (kind : Byte) : Prop := subcodesDefined ⟨kind, tag, p⟩ = true
    let written (v : Nat) : Prop := p.length = 1 + v
    (∀ x ∈ [(0x01#8, 0), (0x02#8, 0), (0x05#8, 0), (0x06#8, 1), (0x07#8, 0), (0x08#8, 0), (0x09#8, 4), (0x0A#8, 2), (0x0C#8, 0),
      (0x0D#8, 0), (0x0E#8, 2), (0x0F#8, 0), (0x10#8, 4), (0x11#8, 5), (0x12#8, 4), (0x13#8, 11), (0x14#8, 1), (0x15#8, 1),
      (0x16#8, 0)], allowed x.1 ↔ p.length = x.2) ∧
    (allowed 0x0B#8 ↔ p.length ≤ 1) ∧
    (¬known → (allowed 0x03#8 ↔ 1 ≤ p.length ∧ p.length ≤ 2) ∧ (allowed 0x04#8 ↔ 2 ≤ p.length ∧ p.length ≤ 65)) ∧
    (known → (allowed 0x03#8 ↔ p.length = if n = 2 then 2 else 1) ∧
      (n ∈ [5, 15, 17, 20, 28] → (allowed 0x04#8 ↔ written 1)) ∧
      (n ∈ [3, 4, 6, 7, 8, 9, 10, 11, 12, 13, 16, 21, 22, 23, 24, 25, 26] → (allowed 0x04#8 ↔ written 2)) ∧
      (n = 27 → (allowed 0x04#8 ↔ written 3)) ∧ (n ∈ [1, 18, 19, 29] → (allowed 0x04#8 ↔ written 4)) ∧
      (n = 14 → (allowed 0x04#8 ↔ written 64)) ∧
      (n = 2 → (allowed 0x04#8 ↔ written (3 + ((List.range 17).filter (fun c => (rd24 p 1).testBit c)).length)))) ∧
    (defined 0x03#8 ↔ known ∧ (n = 2 → rd8 p 1 ≤ 16)) ∧ (defined 0x04#8 ↔ known) ∧
    (∀ x ∈ [0x06#8, 0x15#8], defined x ↔ n ≤ 2) ∧ (∀ x ∈ [0x13#8, 0x14#8], defined x ↔ n ≤ 1) ∧
    (defined 0x11#8 ↔ rd8 p 4 ≤ 1) ∧
    (∀ x ∈ [0x01#8, 0x02#8, 0x05#8, 0x07#8, 0x08#8, 0x09#8, 0x0A#8, 0x0B#8, 0x0C#8, 0x0D#8, 0x0E#8, 0x0F#8, 0x10#8, 0x12#8, 0x16#8],
      defined x)) ∧
  (∀ (f : ReqFrame) (st : ReplyStatus) (payload : List Byte) (s : State),
    (s.takeable f = true ↔ s.begun = true ∧ s.clp.held = false ∧ s.clp.replySlot = none ∧
      (s.clp.queue = [] ∨ s.clp.queue.head? = some f)) ∧
    arrive f s = (if s.clp.queue = [] then { s with clp := { s.clp with queue := [f] } } else s) ∧
    answer f st payload s = { s with clp := { s.clp with
      queue := s.clp.queue.tail, held := false, replySlot := some (replyTo f st payload) } } ∧
    (1 ≤ f.kind.toNat → f.kind.toNat ≤ 22 → replyTo f st payload = ⟨0x80#8 + f.kind, f.tag, st, payload⟩)) ∧
  (∀ (c : Instr) (row : ReqRow) (f : ReqFrame) (s : State), requestOf c = some (row, f) → s.powered = true →
    (rowOf f = row → s.takeable f = true →
      ((f.kind.toNat < 1 ∨ 22 < f.kind.toNat) → ∃ t : State, effect c s t ∧
        t = answer f .unknownKind (u8 1) (arrive f s) ∧ t.clp.replySlot = some ⟨0xFF#8, f.tag, .unknownKind, [1#8, f.kind]⟩) ∧
      (1 ≤ f.kind.toNat → f.kind.toNat ≤ 22 → lengthAllowed f = false → ∃ t : State, effect c s t ∧
        t = answer f .badLength [] (arrive f s) ∧ t.clp.replySlot = some ⟨0x80#8 + f.kind, f.tag, .badLength, []⟩) ∧
      (1 ≤ f.kind.toNat → f.kind.toNat ≤ 22 → lengthAllowed f = true → subcodesDefined f = false →
        ∃ t : State, effect c s t ∧ t = answer f .unknownKind (u8 2) (arrive f s) ∧
          t.clp.replySlot = some ⟨0x80#8 + f.kind, f.tag, .unknownKind, [2#8]⟩)) ∧
    ((rowOf f ≠ row ∨ s.takeable f = false) → effect c s s)) ∧
  (∀ (kind tag : Byte) (p : List Byte) (s : State), (kind.toNat < 1 ∨ 22 < kind.toNat) → s.ready ⟨kind, tag, p⟩ →
    replies (.requestUnknownKind kind tag p) s ⟨kind, tag, p⟩ .unknownKind [1#8] (arrive ⟨kind, tag, p⟩ s))

/-- The requests that read: IDENTIFY, STATUS, CONFIG_READ of an item without sub-index, RECORD_LIST, and RESTART's reply; they
answer OK with their content and change nothing else (R185, R184, R186, R158, R192; the widths of IDENTIFY are log 25). Each field
of the 82 bytes of STATUS content with its place and its owner's value (R184, section 12.2; the fields without a stated value are
log 45, an effort that its 2 bytes cannot hold is log 50). RECORD_LIST holds the first 8 entries that hold a record at or above
the list start, in ascending number, each with every field of section 12.3, and the more flag where others follow (R158). Each
item's value in its width (R197, R134). -/
def Obligations.ReadRequests : Prop :=
  (∀ (tag item : Byte) (p : List Byte) (s : State),
    let own := if s.clp.working.unitIdentity = 0 then s.rom.factoryIdentity else s.clp.working.unitIdentity
    let reads (c : Instr) (f : ReqFrame) (content : List Byte) : Prop :=
      s.ready f → replies c s f .ok content (arrive f s)
    reads (.identify tag []) ⟨0x01#8, tag, []⟩
      ([0x6B#8, 0x36#8, s.rom.siliconRevision] ++ u32 own ++ u32 s.rom.factoryIdentity) ∧
    reads (.status tag []) ⟨0x02#8, tag, []⟩ (s.statusContent s.time) ∧
    reads (.restart tag []) ⟨0x16#8, tag, []⟩ [] ∧
    (1 ≤ item.toNat → item.toNat ≤ 29 → item ≠ 2#8 →
      let w := itemBytes item.toNat 0 s.clp.working
      let i := itemBytes item.toNat 0 s.clp.image
      reads (.configRead tag [item]) ⟨0x03#8, tag, [item]⟩
        (w ++ i ++ flagByte (decide (w ≠ i) || !s.clp.imageValid))) ∧
    (item.toNat ≤ 16 →
      let w := u8 (s.clp.working.slotMap.getD item.toNat 0)
      let i := u8 (s.clp.image.slotMap.getD item.toNat 0)
      reads (.configRead tag [2#8, item]) ⟨0x03#8, tag, [2#8, item]⟩
        (w ++ i ++ flagByte (decide (w ≠ i) || !s.clp.imageValid))) ∧
    (p.length = 4 → reads (.recordList tag p) ⟨0x10#8, tag, p⟩ (s.recordListContent (rd32 p 0)))) ∧
  (∀ (time : Word32) (s : State),
    let c := s.statusContent time
    let one (i v : Nat) : Prop := rd8 c i = v % 256
    let two (i v : Nat) : Prop := rd16 c i = v % 65536
    let bits (i n : Nat) (fields : List (Nat × Nat)) : Prop := (c.drop i).take n = packFields fields
    let count (st : EntryState) : Nat := (s.csl.roster.filter (fun e => e.state == st)).length
    c.length = 82 ∧ rd32 c 0 = time.toNat ∧ one 4 s.ble.blend.code ∧
    two 5 s.ble.eAuto ∧ two 7 s.ble.eDh ∧ two 9 s.ble.dDem ∧ two 11 s.ble.capacity ∧ two 13 s.ble.dAssign ∧ two 15 s.ble.aFill ∧
    (∀ k, let i := match k with
        | .t1 => 17
        | .t2 => 33
      let p := s.tpc.get k
      let b := s.ble.trucks.get k
      let a := s.am.trucks.get k
      let cause := match p.latch with
        | .noApply => 1
        | .noRelease => 2
        | .clear => if p.sensorFault then 3 else 0
      two i p.target ∧ two (i + 2) (s.chan k.bcChannel).value ∧ two (i + 4) a.ceiling.deci ∧ two (i + 6) (b.request / 10) ∧
      two (i + 8) (b.airTarget / 100) ∧ two (i + 10) b.limited ∧ two (i + 12) a.persist ∧
      bits (i + 14) 1 [(3, p.state.code), (2, cause), (2, (s.chan k.bcChannel).validity.code)] ∧
      bits (i + 15) 1 [(2, a.correction.code), (2, b.shortfall.code), (1, a.degraded.toNat), (1, b.enable.toNat),
        (1, a.sand.toNat)]) ∧
    bits 49 3 (s.am.axles.toList.map (fun a => (3, a.state.code))) ∧
    two 52 (s.am.vref / 100) ∧ one 54 s.am.known.toNat ∧ one 55 s.flm.link.code ∧
    one 56 s.csl.role.code ∧ bits 57 1 [(1, s.csl.conflict.toNat), (1, s.csl.enrolled.toNat)] ∧
    one 58 ((s.csl.follow.map Follow.code).getD 0) ∧ one 59 (count .active) ∧ one 60 (count .lost) ∧
    one 61 s.csl.roll.isSome.toNat ∧
    one 62 s.es.cause.code ∧ one 63 s.es.penaltyCode ∧ one 64 s.ble.master.toNat ∧
    one 65 s.cap.state.code ∧
    (s.cap.record = none → rd32 c 66 = 0 ∧ one 70 0 ∧ two 71 0) ∧
    (∀ r i, s.cap.record = some r → (s.entry r.slot).record = some i →
      rd32 c 66 = r.number % 4294967296 ∧ one 70 r.source.code ∧ two 71 i.blocks) ∧
    bits 73 1 [(1, s.clp.commit.isSome.toNat), (1, s.settingsDiffer.toNat)] ∧
    (s.settingsDiffer = true ↔ s.clp.imageValid = false ∨ s.clp.working ≠ s.clp.image) ∧
    two 74 s.cap.storeFull ∧ two 76 s.clp.lostNotices ∧ two 78 s.clp.discarded ∧ two 80 s.clp.badFrames) ∧
  (∀ (start : Nat) (s : State),
    let state (x : Listed) : Nat :=
      let close := (x.info.close.map CloseStatus.code).getD 0
      match x.state with
      | .capturing => 1
      | .closing => 2 + close
      | .closed => (if x.info.damaged then 10 else 6) + close
      | _ => 0
    let fields (x : Listed) : List (Nat × Nat) :=
      [(32, x.info.number), (6, x.slot), (4, state x), (1, x.info.isProtected.toNat), (3, x.info.source.code),
        (32, x.info.time.toNat), (9, x.info.pre), (11, x.info.blocks), (24, x.info.mask.toNat), (16, x.info.overflow),
        (4, x.info.secondary.length)] ++ x.info.secondary.flatMap (fun p => [(3, p.1.code), (10, p.2 - x.info.pre)])
    ∃ held : List Listed,
      (∀ x, x ∈ held ↔ x.slot < 48 ∧ x.state = (s.entry x.slot).state ∧ (s.entry x.slot).record = some x.info ∧
        start ≤ x.info.number) ∧
      (held.map (fun x => x.slot)).Nodup ∧ held.Pairwise (fun x y => x.info.number ≤ y.info.number) ∧
      s.recordListContent start = packFields ([(1, if 8 < held.length then 1 else 0), (4, min 8 held.length), (3, 0)] ++
        (held.take 8).flatMap fields)) ∧
  (∀ w : Settings,
    let bytes (n : Nat) : List Byte := itemBytes n 0 w
    (∀ x ∈ [(1, w.unitIdentity), (18, w.dumpLimit), (19, w.reapplyHold), (29, w.reportInterval)], bytes x.1 = u32 x.2) ∧
    (∀ x ∈ [(6, w.pipeNominal), (7, w.autoGain), (8, w.dynHandleFull), (9, w.airGain), (10, w.serviceMax), (11, w.emergPressure),
        (12, w.airRate), (13, w.dynRate), (16, w.slideAbs), (21, w.ceilingRise), (22, w.ceilingFloor), (23, w.refDecelLimit),
        (24, w.preTrigger), (25, w.postTrigger)], bytes x.1 = u16 x.2) ∧
    (∀ x ∈ [(5, w.statusSense.code), (15, w.emergDynamic.code), (17, w.slideRel), (20, w.ceilingFactor), (28, w.storeMode.code)],
      bytes x.1 = u8 x.2) ∧
    bytes 3 = wordBytes w.statusCompare ∧ bytes 4 = wordBytes w.statusMask ∧
    bytes 14 = w.dbCurve.flatMap (fun p => u16 p.1 ++ u16 p.2) ∧ bytes 26 = [w.triggerEnable ||| 1#8] ∧
    bytes 27 = u8 (w.recordChannels.toNat / 65536) ++ u16 w.recordChannels.toNat)

/-- CONFIG_WRITE: out of range BAD_VALUE, then the item's condition, else the working set takes the value at once and nothing else
changes; UNIT_IDENTITY only in OFFLINE, SLOT_MAP in FAILSAFE or RELEASED and stationary, REPORT_INTERVAL setting a moment when
none is due (R187, R188, R13, R183; log 4). The range of every item at its step (section 11.4; R13, R23, R145), and the value each
write takes from its bytes (R197): the slots named in a mask in ascending channel order (R13), the 16 points of DB_CURVE (R23),
the enables named in a mask but for EMERGENCY (R134). A two-valued item's code above 1 is out of range, since it names neither
value (R187, R195). -/
def Obligations.ConfigWrites : Prop :=
  (∀ w : Settings,
    let within (n : Nat) (p : Prop) : Prop := itemInRange n w = true ↔ p
    (∀ x ∈ [(6, w.pipeNominal, 400, 600), (7, w.autoGain, 50, 500), (8, w.dynHandleFull, 1000, 6000), (9, w.airGain, 100, 1000),
        (10, w.serviceMax, 200, 450), (11, w.emergPressure, 300, 500), (12, w.airRate, 20, 200), (13, w.dynRate, 20, 400),
        (16, w.slideAbs, 50, 500), (17, w.slideRel, 1, 10), (18, w.dumpLimit, 1000, 5000), (19, w.reapplyHold, 500, 3000),
        (20, w.ceilingFactor, 60, 95), (21, w.ceilingRise, 2, 50), (22, w.ceilingFloor, 200, 1000), (23, w.refDecelLimit, 5, 50),
        (24, w.preTrigger, 0, 256), (25, w.postTrigger, 50, 1024), (1, w.unitIdentity, 0, 4294967294)],
      within x.1 (x.2.2.1 ≤ x.2.1 ∧ x.2.1 ≤ x.2.2.2)) ∧
    within 2 (w.slotMap.length = 17 ∧ (∀ x ∈ w.slotMap, x ≤ 31) ∧ (w.slotMap.filter (fun x => x != 0)).Nodup) ∧
    within 14 (w.dbCurve.length = 16 ∧ (∀ p ∈ w.dbCurve, p.1 ≤ 15000 ∧ p.2 ≤ 3000) ∧
      w.dbCurve.Pairwise (fun p q => p.1 < q.1)) ∧
    within 27 (((List.range 24).filter (fun n => w.recordChannels.getLsbD n)).length ≤ 16) ∧
    within 29 (w.reportInterval = 0 ∨ 20 ≤ w.reportInterval ∧ w.reportInterval ≤ 1000 ∧ w.reportInterval % 20 = 0) ∧
    (∀ n ∈ [3, 4, 5, 15, 26, 28], within n True)) ∧
  (∀ (v : List Byte) (a : Settings),
    let b := rd8 v 0
    let two := rd16 v 0
    let four := rd32 v 0
    (∀ n ∈ [5, 15, 28], codeInRange n v = true ↔ b ≤ 1) ∧ (∀ n, n ∉ [5, 15, 28] → codeInRange n v = true) ∧
    (∀ x ∈ [(1, { a with unitIdentity := four }), (3, { a with statusCompare := BitVec.ofNat 16 two }),
        (4, { a with statusMask := BitVec.ofNat 16 two }), (5, { a with statusSense := if b = 0 then .edge else .level }),
        (6, { a with pipeNominal := two }), (7, { a with autoGain := two }), (8, { a with dynHandleFull := two }),
        (9, { a with airGain := two }), (10, { a with serviceMax := two }), (11, { a with emergPressure := two }),
        (12, { a with airRate := two }), (13, { a with dynRate := two }),
        (15, { a with emergDynamic := if b = 0 then .keep else .drop }), (16, { a with slideAbs := two }),
        (17, { a with slideRel := b }), (18, { a with dumpLimit := four }), (19, { a with reapplyHold := four }),
        (20, { a with ceilingFactor := b }), (21, { a with ceilingRise := two }), (22, { a with ceilingFloor := two }),
        (23, { a with refDecelLimit := two }), (24, { a with preTrigger := two }), (25, { a with postTrigger := two }),
        (27, { a with recordChannels := BitVec.ofNat 24 (rd24 v 0) }),
        (28, { a with storeMode := if b = 0 then .interleaved else .burst }), (29, { a with reportInterval := four })],
      Settings.write x.1 v a = x.2) ∧
    (let w := Settings.write 2 v a
      let named (c : Nat) : Bool := (rd24 v 0).testBit c
      let below (c : Nat) : Nat := ((List.range c).filter named).length
      w = { a with slotMap := w.slotMap } ∧ w.slotMap.length = a.slotMap.length ∧
      (a.slotMap.length = 17 → v.length = 3 + below 17 → ∀ c < 17,
        w.slotMap.getD c 0 = if named c then rd8 v (3 + below c) else a.slotMap.getD c 0)) ∧
    (v.length = 64 → Settings.write 14 v a =
      { a with dbCurve := (List.range 16).map (fun k => (rd16 v (4 * k), rd16 v (4 * k + 2))) }) ∧
    (let w := Settings.write 26 v a
      let named (n : Nat) : Bool := n != 0 && (v.getD 0 0).getLsbD n
      w = { a with triggerEnable := w.triggerEnable } ∧
      ∀ n < 8, w.triggerEnable.getLsbD n = if named n then (v.getD 1 0).getLsbD n else a.triggerEnable.getLsbD n)) ∧
  ∀ (tag : Byte) (n : Byte) (v : List Byte) (s : State),
    let f : ReqFrame := ⟨0x04#8, tag, n :: v⟩
    let r := arrive f s
    let w := Settings.write n.toNat v s.clp.working
    let inRange := codeInRange n.toNat v = true ∧ itemInRange n.toNat w = true
    let done : State := { r with clp := { r.clp with working := w } }
    let still := s.am.known = true ∧ s.am.vref < 5000
    let plain (c : Instr) : Prop := (¬inRange → replies c s f .badValue [] r) ∧ (inRange → replies c s f .ok [] done)
    s.ready f → lengthAllowed f = true → 1 ≤ n.toNat → n.toNat ≤ 29 →
    (n ≠ 1#8 → n ≠ 2#8 → n ≠ 14#8 → n ≠ 26#8 → n ≠ 27#8 → n ≠ 29#8 → plain (.configWrite tag (n :: v))) ∧
    (n = 14#8 → plain (.configWriteDbCurve tag (n :: v))) ∧
    (n = 26#8 → plain (.configWriteTriggerEnable tag (n :: v))) ∧
    (n = 27#8 → plain (.configWriteRecordChannels tag (n :: v))) ∧
    (n = 1#8 → let c : Instr := .configWriteUnitIdentity tag (n :: v)
      (¬inRange → replies c s f .badValue [] r) ∧
      (inRange → s.csl.role ≠ .offline → replies c s f .wrongRole [] r) ∧
      (inRange → s.csl.role = .offline → replies c s f .ok [] done)) ∧
    (n = 2#8 → let c : Instr := .configWriteSlotMap tag (n :: v)
      let free := s.ble.blend = .failsafe ∨ s.ble.blend = .released ∧ still
      (¬inRange → replies c s f .badValue [] r) ∧
      (inRange → ¬free → replies c s f .wrongState [] r) ∧ (inRange → free → replies c s f .ok [] done)) ∧
    (n = 29#8 → let c : Instr := .configWriteReportInterval tag (n :: v)
      (¬inRange → replies c s f .badValue [] r) ∧
      (inRange → s.clp.reportIn ≠ none → replies c s f .ok [] done) ∧
      (inRange → s.clp.reportIn = none → w.reportInterval = 0 → replies c s f .ok [] done) ∧
      (inRange → s.clp.reportIn = none → w.reportInterval ≠ 0 → replies c s f .ok []
        { r with clp := { r.clp with working := w, reportIn := some ((w.reportInterval : Int) + 5) } }))

/-- CONFIG_COMMIT: BUSY while one is in hand, COMMIT_DONE at once with nothing to write, else a commit of the differing items in
hand, an item differing by its own value alone; the completion of an item write moves area and image and leaves the check good for
no set, that of the check write ends the commit (R190, R191). -/
def Obligations.CommitRuns : Prop :=
  (∀ a b : Settings,
    let same (n : Nat) (p : Prop) : Prop := Settings.sameItem n a b = true ↔ p
    (∀ x ∈ [(1, a.unitIdentity, b.unitIdentity), (6, a.pipeNominal, b.pipeNominal), (7, a.autoGain, b.autoGain),
        (8, a.dynHandleFull, b.dynHandleFull), (9, a.airGain, b.airGain), (10, a.serviceMax, b.serviceMax),
        (11, a.emergPressure, b.emergPressure), (12, a.airRate, b.airRate), (13, a.dynRate, b.dynRate),
        (16, a.slideAbs, b.slideAbs), (17, a.slideRel, b.slideRel), (18, a.dumpLimit, b.dumpLimit),
        (19, a.reapplyHold, b.reapplyHold), (20, a.ceilingFactor, b.ceilingFactor), (21, a.ceilingRise, b.ceilingRise),
        (22, a.ceilingFloor, b.ceilingFloor), (23, a.refDecelLimit, b.refDecelLimit), (24, a.preTrigger, b.preTrigger),
        (25, a.postTrigger, b.postTrigger), (29, a.reportInterval, b.reportInterval)], same x.1 (x.2.1 = x.2.2)) ∧
    same 2 (a.slotMap = b.slotMap) ∧ same 3 (a.statusCompare = b.statusCompare) ∧ same 4 (a.statusMask = b.statusMask) ∧
    same 5 (a.statusSense = b.statusSense) ∧ same 14 (a.dbCurve = b.dbCurve) ∧ same 15 (a.emergDynamic = b.emergDynamic) ∧
    same 26 (a.triggerEnable = b.triggerEnable) ∧ same 27 (a.recordChannels = b.recordChannels) ∧
    same 28 (a.storeMode = b.storeMode) ∧
    (∀ n m, 1 ≤ n → n ≤ 29 → let c := Settings.copyItem n a b
      Settings.sameItem n c a = true ∧ (m ≠ n → Settings.sameItem m c b = true))) ∧
  ∀ (tag : Byte) (s : State),
    let f : ReqFrame := ⟨0x05#8, tag, []⟩
    let r := arrive f s
    let differing := (List.range 29).filterMap (fun k =>
      if s.clp.imageValid = false ∨ Settings.sameItem (k + 1) s.clp.working s.clp.image = false then some (k + 1) else none)
    (s.ready f →
      (s.clp.commit ≠ none → replies (.configCommit tag []) s f .busy [] r) ∧
      (s.clp.commit = none → differing = [] → replies (.configCommit tag []) s f .accepted [] (raise (.commitDone 0) r)) ∧
      (s.clp.commit = none → differing ≠ [] → replies (.configCommit tag []) s f .accepted []
        { r with clp := { r.clp with commit := some ⟨s.clp.working, differing, differing.length, true⟩ } })) ∧
    (∀ n k, s.powered = true → s.store.port = some (.configItem n) → s.clp.commit = some k →
      effect .configAreaWriteDone s
        { s with
          store := { s.store with port := none }
          nv := { s.nv with area := ⟨Settings.copyItem n k.snapshot s.nv.area.values, none⟩ }
          clp := { s.clp with image := Settings.copyItem n k.snapshot s.clp.image
                              commit := some { k with todo := k.todo.tail, ask := true } } }) ∧
    (∀ k, s.powered = true → s.store.port = some .configCheck → s.clp.commit = some k →
      effect .configAreaWriteDone s (raise (.commitDone k.listed)
        { s with
          store := { s.store with port := none }
          nv := { s.nv with area := { s.nv.area with checkOver := some k.snapshot } }
          clp := { s.clp with imageValid := true, commit := none } }))

/-! ## The record store and the streams -/

/-- RECORD_PROTECT, RECORD_ERASE and the ends of their store operations, with the damaged write: the tables of R159 to R161, the
held head of R179. At an accepted erase the slot goes ERASING: a stream of the record ends RECORD_GONE, at once or at the end of
its frame on the line (R173; S0 before S1, log 39), the slot's waiting directory writes are withdrawn (R161) and its scrub check
is abandoned (R164). A record is found by its number in the slot that holds it, in the working directory (R158 to R161). -/
def Obligations.RecordRequests : Prop :=
  (∀ (n : Nat) (s : State),
    (∀ slot st i, s.findRecord n = some (slot, st, i) → slot < 48 ∧ s.entry slot = ⟨st, some i⟩ ∧ i.number = n) ∧
    (s.findRecord n = none ↔ ∀ slot < 48, ∀ i, (s.entry slot).record = some i → i.number ≠ n)) ∧
  ∀ (tag : Byte) (a b c d : Byte) (s : State),
    let n := rd32 [a, b, c, d] 0
    let pf : ReqFrame := ⟨0x11#8, tag, [a, b, c, d, 0#8]⟩
    let uf : ReqFrame := ⟨0x11#8, tag, [a, b, c, d, 1#8]⟩
    let ef : ReqFrame := ⟨0x12#8, tag, [a, b, c, d]⟩
    let mark (slot : Nat) (t : State) : State := t.updRecord slot (fun i => { i with isProtected := true })
    let ask (slot : Nat) (k : DirKind) (t : State) : State :=
      { t with store := { t.store with dirQueue := t.store.dirQueue ++ [⟨slot, k⟩] } }
    (s.ready pf → let p : Instr := .recordProtect tag [a, b, c, d, 0#8]
      (s.findRecord n = none → replies p s pf .noRecord [] (arrive pf s)) ∧
      (∀ slot st i, s.findRecord n = some (slot, st, i) →
        (st = .closed → i.isProtected = false → holds p s (ask slot .protect (mark slot (arrive pf s)))) ∧
        (st = .closed → i.isProtected = true → replies p s pf .ok [] (arrive pf s)) ∧
        ((st = .erasing ∨ st = .capturing) → replies p s pf .ok [] (mark slot (arrive pf s))) ∧
        (st = .closing → replies p s pf .wrongState [] (arrive pf s)))) ∧
    (s.ready uf → let p : Instr := .recordUnprotect tag [a, b, c, d, 1#8]
      (s.findRecord n = none → replies p s uf .noRecord [] (arrive uf s)) ∧
      (∀ slot st i, s.findRecord n = some (slot, st, i) →
        (st = .closed → i.isProtected = true → holds p s (ask slot .unprotect (arrive uf s))) ∧
        (st = .closed → i.isProtected = false → replies p s uf .ok [] (arrive uf s)) ∧
        (st ≠ .closed → replies p s uf .wrongState [] (arrive uf s)))) ∧
    (s.ready ef → let e : Instr := .recordErase tag [a, b, c, d]
      (s.findRecord n = none → replies e s ef .noRecord [] (arrive ef s)) ∧
      (∀ slot st i, s.findRecord n = some (slot, st, i) →
        (s.store.hostErase ≠ none → replies e s ef .busy [] (arrive ef s)) ∧
        (s.store.hostErase = none → st ≠ .closed → replies e s ef .wrongState [] (arrive ef s)) ∧
        (s.store.hostErase = none → st = .closed → i.isProtected = true → replies e s ef .isProtected [] (arrive ef s)) ∧
        (s.store.hostErase = none → st = .closed → i.isProtected = false →
          let r := arrive ef s
          let gone (m : StreamNo) (x : State) : State :=
            if (x.rdu.get m).record = n then decideStream m .recordGone x else x
          let u := gone .s1 (gone .s0 { r with store := { s.store with
            dir := s.store.dir.set slot ⟨.erasing, none⟩, hostErase := some ⟨slot, n, true⟩ } })
          ∃ t : State, replies e s ef .accepted [] t ∧ t.store.dir = s.store.dir.set slot ⟨.erasing, none⟩ ∧
            t.store.hostErase = some ⟨slot, n, true⟩ ∧ t.nv = s.nv ∧ t.cap = s.cap ∧
            t.store.dirQueue = s.store.dirQueue.filter (fun w => w.slot != slot) ∧
            t = scrubAbandon slot { u with store := { u.store with
              dirQueue := u.store.dirQueue.filter (fun w => w.slot != slot) } } ∧
            (∀ m, let d := s.rdu.get m
              let x := t.rdu.get m
              (d.record = n → d.state = .running → d.status = none →
                x.status = some .recordGone ∧ x.ask = false ∧ x.buffer = none ∧
                  x.state = (if s.streamOnLine m then .running else .complete)) ∧
              (d.record ≠ n → x = d)) ∧
            (∀ k, t.store.check = some k → k.slot ≠ slot) ∧
            (∀ k, s.store.check = some k → k.slot ≠ slot → t.store.check = some k)))) ∧
    (∀ slot i q rest, s.powered = true → s.clp.held = true → s.clp.queue = q :: rest →
      let t : State := { s with store := { s.store with port := none }
                                nv := { s.nv with stored := s.nv.stored.set slot (.closed i) } }
      (s.store.port = some (.dir ⟨slot, .protect⟩ i) → effect .protectWriteDone s (answer q .ok [] t)) ∧
      (s.store.port = some (.dir ⟨slot, .unprotect⟩ i) → effect .unprotectWriteDone s
        (answer q .ok [] (t.updRecord slot (fun i => { i with isProtected := false }))))) ∧
    (∀ slot i, s.powered = true → s.store.port = some (.dir ⟨slot, .damaged⟩ i) → effect .damagedWriteDone s
      { s with store := { s.store with port := none }
               nv := { s.nv with stored := s.nv.stored.set slot (.closed i) } }) ∧
    (∀ slot h, s.powered = true → s.store.port = some (.hostErase slot) → s.store.hostErase = some h →
      effect .hostEraseDone s (raise (.eraseDone h.slot h.number)
        { s with store := { s.store with port := none, dir := s.store.dir.set slot ⟨.free, none⟩, hostErase := none }
                 nv := { s.nv with pages := pagesErase slot s.nv.pages, stored := s.nv.stored.set slot .free } }))

/-- STREAM_OPEN, STREAM_ACK and STREAM_ABORT with their refusals (an abort of both decides S0 first, log 39), a page read that
fills the buffer with a frame of the window's blocks (where the page is bad, of whatever bytes were read, in the length of the
record's blocks, R171, log 11), and the end of that frame on the line with the tests of R172 in order (R168 to R175). A completion
is COMPLETE with its status and STREAM_DONE, the next pointer kept (R172); decided while a frame is on the line it waits for that
frame's end, else it comes at once, the waiting read withdrawn, the read in progress not used, a frame not begun discarded; one
already decided stands (R173, R174). The end of any other frame, but for the reply to RESTART, leaves the line idle (R181); that
reply restarts the part (R192), in that one step (log 27). BAD_VALUE for a mode or stop code above 1 before the other tests is log
24. RESTART first completes the store's work in the order of R165: the operation in progress, the waiting directory writes, the
open record (INTERRUPTED with the blocks of its verified pages, or none and its decided reclaim erase), the host erase in hand,
the writes of a commit in hand with its check (R192); then the scan and the load run over that memory (R166, R189) and the record
numbers go on. What each of these writes is stated; a page that none of them writes or erases, in a slot that the scan does not
erase, stands as before. That a page read in progress brings nothing is log 27. -/
def Obligations.StreamsRun : Prop :=
  (∀ (tag a b c d f1 f0 l1 l0 m o : Byte) (n : StreamNo) (s : State),
    let sb : Byte := BitVec.ofNat 8 n.code
    let pl := [sb, a, b, c, d, f1, f0, l1, l0, m, o]
    let fo : ReqFrame := ⟨0x13#8, tag, pl⟩
    let fa : ReqFrame := ⟨0x14#8, tag, [sb]⟩
    let fx : ReqFrame := ⟨0x15#8, tag, [sb]⟩
    let fb : ReqFrame := ⟨0x15#8, tag, [2#8]⟩
    let k := s.rdu.get n
    let first := rd16 pl 5
    let last := rd16 pl 7
    let put (k : Stream) (t : State) : State := { t with rdu := s.rdu.set n k }
    (s.ready fo → (1 < m.toNat ∨ 1 < o.toNat) → replies (.streamOpen tag pl) s fo .badValue [] (arrive fo s)) ∧
    (s.ready fo → m.toNat ≤ 1 → o.toNat ≤ 1 →
      let open' : Instr := .streamOpen tag pl
      let r := arrive fo s
      (k.state = .running → replies open' s fo .busy [] r) ∧
      (k.state = .complete → replies open' s fo .notAcked [] r) ∧
      (k.state = .idle → s.findRecord (rd32 pl 1) = none → replies open' s fo .noRecord [] r) ∧
      (∀ slot st i, k.state = .idle → s.findRecord (rd32 pl 1) = some (slot, st, i) →
        (st ≠ .closed → replies open' s fo .wrongState [] r) ∧
        (st = .closed → ¬(first ≤ last ∧ last < i.blocks) → replies open' s fo .badValue [] r) ∧
        (st = .closed → first ≤ last → last < i.blocks → replies open' s fo .ok []
          (put ⟨.running, i.number, first, last, (first : Int) - 1, m == 1#8, o == 1#8, i.pre, 0, none, true, none⟩ r)))) ∧
    (s.ready fa →
      (k.state = .complete → replies (.streamAck tag [sb]) s fa .ok k.ackBytes (put Stream.boot (arrive fa s))) ∧
      (k.state ≠ .complete → replies (.streamAck tag [sb]) s fa .wrongState [] (arrive fa s))) ∧
    (s.ready fx →
      (k.state ≠ .running → replies (.streamAbort tag [sb]) s fx .wrongState [] (arrive fx s)) ∧
      (k.state = .running → replies (.streamAbort tag [sb]) s fx .ok [] (decideStream n .aborted (arrive fx s)))) ∧
    (s.ready fb →
      let b : Instr := .streamAbort tag [2#8]
      let none' := s.rdu.s0.state ≠ .running ∧ s.rdu.s1.state ≠ .running
      (none' → replies b s fb .wrongState [] (arrive fb s)) ∧
      (¬none' → replies b s fb .ok [] (decideStream .s1 .aborted (decideStream .s0 .aborted (arrive fb s))))) ∧
    (∀ slot page, s.powered = true → s.store.port = some (.streamRead n slot page true) → k.state = .running →
      let lo := max k.first (4 * page)
      let hi := min (k.last + 1) (4 * page + 4)
      let length := 17 + 2 * maskCount (s.maskOf slot)
      let fitted (b : RawBlock) : RawBlock := { b with body := (b.body ++ List.replicate length 0).take length }
      let built (bad : Bool) (blocks : List RawBlock) : State :=
        let x : StreamFrame := ⟨n, k.record, lo, bad, (blocks.drop (lo - 4 * page)).take (hi - lo)⟩
        { s with store := { s.store with port := none }, rdu := s.rdu.set n { k with buffer := some x } }
      let stored := s.pageBlocks slot page
      effect (.streamPageReadDone n .good) s (built false (stored.map SampleBlock.raw)) ∧
      ∀ bs, effect (.streamPageReadDone n (.bad bs)) s
        (built true (bs.map fitted ++ (stored.drop bs.length).map SampleBlock.raw))) ∧
    (∀ slot page r, s.powered = true → s.store.port = some (.streamRead n slot page false) →
      effect (.streamPageReadDone n r) s { s with store := { s.store with port := none } }) ∧
    (∀ x rf, s.powered = true → s.clp.tx = some (.stream x) → x.stream = n →
      let j : Stream := { k with next := (x.index : Int) + (x.blocks.length : Int) - 1,
                                 damaged := k.damaged + x.damaged.toNat }
      let t : State := { s with clp := { s.clp with tx := none }, rdu := s.rdu.set n j }
      let trig := k.stopAtTrigger = true ∧ x.index ≤ k.trigIndex ∧ k.trigIndex < x.index + x.blocks.length
      let ends (u : State) : Prop := effect (.txFrameEnd rf) s u
      (∀ c, k.status = some c → ends (completeStream n c t)) ∧
      (k.status = none →
        (trig → ends (completeStream n .triggerPoint t)) ∧
        (¬trig → j.next = k.last → ends (completeStream n .windowEnd t)) ∧
        (¬trig → j.next ≠ k.last → k.single = true → ends (completeStream n .singleDone t)) ∧
        (¬trig → j.next ≠ k.last → k.single = false → ends { t with rdu := s.rdu.set n { j with ask := true } }))) ∧
    (∀ x rf, s.powered = true → s.clp.tx = some x → (∀ y, x ≠ .stream y) →
      ((∀ y, x = .reply y → y.isRestart = false) →
        effect (.txFrameEnd rf) s { s with clp := { s.clp with tx := none } }) ∧
      (∀ y, x = .reply y → y.isRestart = true → ∃ t : State, effect (.txFrameEnd rf) s t ∧ t.begun = false ∧ t.time = 0 ∧
        t.flm = Flm.boot t.clp.working ∧ t.ble = Ble.boot ∧ t.tpc = ⟨Tpc.boot, Tpc.boot⟩ ∧ t.am = Am.boot ∧
        t.es = Es.boot ∧ t.csl = Csl.boot ∧ t.cap = Cap.boot ∧ t.rdu = ⟨Stream.boot, Stream.boot⟩ ∧
        t.rom = s.rom ∧ s.store.nextNumber ≤ t.store.nextNumber))) ∧
  (∀ (n : StreamNo) (c : Completion) (s : State),
    let d := s.rdu.get n
    let unread : State := { s with store := { s.store with port := s.store.port.map (fun op => match op with
      | .streamRead m slot page _ => if m = n then .streamRead m slot page false else op
      | other => other) } }
    let ended : Stream := { d with status := some c, ask := false, buffer := none }
    (s.streamOnLine n = true ↔ ∃ x, s.clp.tx = some (.stream x) ∧ x.stream = n) ∧
    completeStream n c s = raise (.streamDone n d.record c d.next d.damaged)
      { s with rdu := s.rdu.set n { ended with state := .complete } } ∧
    ((d.state ≠ .running ∨ d.status ≠ none) → decideStream n c s = s) ∧
    (d.state = .running → d.status = none →
      (s.streamOnLine n = true → decideStream n c s = { unread with rdu := s.rdu.set n ended }) ∧
      (s.streamOnLine n = false → decideStream n c s = completeStream n c unread))) ∧
  (∀ (rf : RestartFacts) (y : Reply) (s : State), s.powered = true → s.clp.tx = some (.reply y) → y.isRestart = true →
    let finished := finishOperation rf.pageVerified { s with clp := { s.clp with tx := none } }
    let written := finished.store.dirQueue.foldl makeDirWrite finished
    let u := endCommit (endHostErase (endCapture s.openingBegun written))
    let t := bootFrom rf.faults u.nv u.store.nextNumber u
    effect (.txFrameEnd rf) s t ∧ t.nv = scanStore rf.faults u.nv ∧ u.store.nextNumber = s.store.nextNumber ∧
    (s.openingBegun = true ↔ s.cap.state = .capturing ∨
      s.cap.state = .allocating ∧ ∃ slot i, s.store.port = some (.opening slot i)) ∧
    (∀ slot p, p < 320 → (∀ r, s.cap.record = some r → r.slot ≠ slot) → (∀ h, s.store.hostErase = some h → h.slot ≠ slot) →
      s.store.port ≠ some (.reclaimErase slot) → s.store.port ≠ some (.hostErase slot) →
      (∀ x q bs, s.store.port = some (.page x q bs) → x * 320 + q ≠ slot * 320 + p) → slot ∉ rf.faults.badEntries →
      s.nv.stored[slot]? ≠ some .erasing → s.nv.stored[slot]? ≠ some .badCheck →
      pagesRead t.nv.pages (slot * 320 + p) = pagesRead s.nv.pages (slot * 320 + p))) ∧
  (∀ (verified : Bool) (u : State),
    let f := finishOperation verified u
    let idle (nv : NonVolatile) : State := { u with store := { u.store with port := none }, nv := nv }
    let stores (slot : Nat) (e : StoredEntry) : State := idle { u.nv with stored := u.nv.stored.set slot e }
    let erased (slot : Nat) : State :=
      idle { u.nv with stored := u.nv.stored.set slot .free, pages := pagesErase slot u.nv.pages }
    (u.store.port = none → f = u) ∧
    (∀ slot page bs, u.store.port = some (.page slot page bs) →
      let w := idle { u.nv with pages := pagesWrite (slot * 320 + page) ⟨bs, verified⟩ u.nv.pages }
      f = if verified then w.updRecord slot (fun i => { i with blocks := i.blocks + bs.length }) else w) ∧
    (∀ slot, (u.store.port = some (.reclaimErase slot) ∨ u.store.port = some (.hostErase slot)) → f = erased slot) ∧
    (∀ slot i, u.store.port = some (.opening slot i) → f = stores slot (.capturing i)) ∧
    (∀ slot kind i, u.store.port = some (.dir ⟨slot, kind⟩ i) → f =
      if kind = .unprotect then (stores slot (.closed i)).updRecord slot (fun i => { i with isProtected := false })
      else stores slot (.closed i)) ∧
    (∀ n c, u.store.port = some (.configItem n) → u.clp.commit = some c → ∃ image, f =
      { idle { u.nv with area := ⟨Settings.copyItem n c.snapshot u.nv.area.values, none⟩ } with
        clp := { u.clp with image := image, commit := some { c with todo := c.todo.tail, ask := true } } }) ∧
    (∀ c, u.store.port = some .configCheck → u.clp.commit = some c →
      f.nv = { u.nv with area := { u.nv.area with checkOver := some c.snapshot } } ∧ f.clp.commit = none) ∧
    (∀ slot page used, (u.store.port = some (.scrubRead slot page used) ∨
      ∃ n, u.store.port = some (.streamRead n slot page used)) → f = idle u.nv)) ∧
  (∀ (slot : Nat) (kind : DirKind) (u : State),
    ((u.entry slot).record = none → makeDirWrite u ⟨slot, kind⟩ = u) ∧
    (∀ i, (u.entry slot).record = some i →
      let stores (i : RecordInfo) : State := { u with nv := { u.nv with stored := u.nv.stored.set slot (.closed i) } }
      makeDirWrite u ⟨slot, kind⟩ =
        if kind = .unprotect then
          (stores { i with isProtected := false }).updRecord slot (fun i => { i with isProtected := false })
        else stores i)) ∧
  (∀ (begun : Bool) (u : State),
    let erased (slot : Nat) : State :=
      { u with nv := { u.nv with stored := u.nv.stored.set slot .free, pages := pagesErase slot u.nv.pages } }
    ((u.cap.record = none ∨ u.cap.state = .closing) → endCapture begun u = u) ∧
    (∀ r, u.cap.record = some r → u.cap.state ≠ .closing →
      (∀ i, begun = true → (u.entry r.slot).record = some i → endCapture begun u =
        { u with nv := { u.nv with stored := u.nv.stored.set r.slot (.closed { i with close := some .interrupted }) } }) ∧
      (begun = true → (u.entry r.slot).record = none → endCapture begun u = u) ∧
      (begun = false → (u.entry r.slot).state = .erasing → endCapture begun u = erased r.slot) ∧
      (begun = false → (u.entry r.slot).state ≠ .erasing → endCapture begun u = u)) ∧
    (u.store.hostErase = none → endHostErase u = u) ∧
    (∀ h, u.store.hostErase = some h → endHostErase u = erased h.slot) ∧
    (u.clp.commit = none → endCommit u = u) ∧
    (∀ c, u.clp.commit = some c → endCommit u = { u with nv := { u.nv with area :=
      ⟨c.todo.foldl (fun v n => Settings.copyItem n c.snapshot v) u.nv.area.values, some c.snapshot⟩ } }))

/-- SCRUB_REQUEST every 2 s, acting late where its row is late (log 5), starts a check at page 0 of the slot R163 chooses, or is
latched while one runs (R162); a record of 0 blocks completes at the start. SCRUB_PAGE_READ_DONE marks the record at its first bad
page, with the directory write asked and RECORD_DAMAGED raised, and reads on, or ends the check with the index past its slot,
where a latched request starts the next check at once (R162, R163); a read no longer wanted is not used, and a check of a slot
that goes ERASING is abandoned, its waiting read withdrawn and its read in progress not used, where a latched request starts the
next check too (R164, R162). The slot chosen is the first CLOSED one from the index on, around the 48, none where none is CLOSED
(R163). -/
def Obligations.ScrubberRuns : Prop :=
  let starts (next : Nat) (j : RecordInfo) (u : State) : State :=
    if j.blocks = 0 then { u with store := { u.store with scrubIndex := (next + 1) % 48 } }
    else { u with store := { u.store with scrubIndex := next, check := some ⟨next, 0, true⟩ } }
  (∀ s : State, s.powered = true →
    let mark (slot page : Nat) (i : RecordInfo) (t : State) : State :=
      if i.damaged then t
      else raise (.recordDamaged i.number slot page)
        { t with store := { t.store with
          dir := t.store.dir.set slot { t.entry slot with record := some { i with damaged := true } }
          dirQueue := t.store.dirQueue ++ [⟨slot, .damaged⟩] } }
    let reads (r : ReadResult) (slot page : Nat) (i : RecordInfo) : State :=
      let t : State := { s with store := { s.store with port := none } }
      match r with
      | .good => t
      | .bad _ => mark slot page i t
    (s.store.scrubTicks < 400 → effect .scrubRequest s s) ∧
    (∀ k, 400 ≤ s.store.scrubTicks → s.store.check = some k → effect .scrubRequest s
      { s with store := { s.store with scrubTicks := s.store.scrubTicks - 400, scrubLatch := true } }) ∧
    (∀ slot i, 400 ≤ s.store.scrubTicks → s.store.check = none → s.scrubSlot = some slot →
      (s.entry slot).record = some i →
      (i.blocks ≠ 0 → effect .scrubRequest s
        { s with store := { s.store with scrubTicks := s.store.scrubTicks - 400, scrubIndex := slot,
                                         check := some ⟨slot, 0, true⟩ } }) ∧
      (i.blocks = 0 → s.store.scrubLatch = false → effect .scrubRequest s
        { s with store := { s.store with scrubTicks := s.store.scrubTicks - 400, scrubIndex := (slot + 1) % 48 } })) ∧
    (400 ≤ s.store.scrubTicks → s.store.check = none → s.scrubSlot = none → effect .scrubRequest s
      { s with store := { s.store with scrubTicks := s.store.scrubTicks - 400 } }) ∧
    (∀ slot page r, s.store.port = some (.scrubRead slot page false) →
      effect (.scrubPageReadDone r) s { s with store := { s.store with port := none } }) ∧
    (∀ slot page i r, s.store.port = some (.scrubRead slot page true) → (s.entry slot).record = some i →
      let t := reads r slot page i
      let u : State := { t with store := { t.store with check := none, scrubLatch := false, scrubIndex := (slot + 1) % 48 } }
      (page + 1 < (i.blocks + 3) / 4 → effect (.scrubPageReadDone r) s
        { t with store := { t.store with check := some ⟨slot, page + 1, true⟩ } }) ∧
      ((i.blocks + 3) / 4 ≤ page + 1 →
        (s.store.scrubLatch = false → effect (.scrubPageReadDone r) s u) ∧
        (s.store.scrubLatch = true → u.scrubSlot = none → effect (.scrubPageReadDone r) s u) ∧
        (∀ next j, s.store.scrubLatch = true → u.scrubSlot = some next → (u.entry next).record = some j →
          effect (.scrubPageReadDone r) s (starts next j u))))) ∧
  (∀ (slot : Nat) (s : State), s.store.check = none → scrubAbandon slot s = s) ∧
  (∀ (slot : Nat) (s : State),
    let at' (k : Nat) : Nat := (s.store.scrubIndex + k) % 48
    (s.scrubSlot = some slot ↔ ∃ k < 48, slot = at' k ∧ (s.entry slot).state = .closed ∧
      ∀ j < k, (s.entry (at' j)).state ≠ .closed) ∧
    (s.scrubSlot = none ↔ ∀ j < 48, (s.entry j).state ≠ .closed)) ∧
  (∀ (slot : Nat) (k : ScrubCheck) (s : State), s.store.check = some k →
    let u : State := { s with store := { s.store with
      check := none
      scrubLatch := false
      port := s.store.port.map (fun op => match op with
        | .scrubRead x page _ => .scrubRead x page false
        | other => other) } }
    (k.slot ≠ slot → scrubAbandon slot s = s) ∧
    (k.slot = slot →
      (s.store.scrubLatch = false → scrubAbandon slot s = u) ∧
      (s.store.scrubLatch = true → u.scrubSlot = none → scrubAbandon slot s = u) ∧
      (∀ next j, s.store.scrubLatch = true → u.scrubSlot = some next → (u.entry next).record = some j →
        scrubAbandon slot s = starts next j u)))

end
end

