-- ==== Sys2Proof/Laws/Adhesion.lean ====
section
/-! SUPPORT. What the two choices of R64 are: the lower of the middle values, by how many candidates lie below it and how
many are no more, and the highest. -/
namespace Sys2Proof.Machine

/-- Inserting keeps the members. -/
theorem insertNat_perm (n : Nat) (l : List Nat) : (insertNat n l).Perm (n :: l) := by
  induction l with
  | nil => exact .refl _
  | cons m l ih =>
    unfold insertNat; split
    · exact .refl _
    · exact (ih.cons m).trans (.swap n m l)

/-- Sorting keeps the members. -/
theorem sortNat_perm (l : List Nat) : (sortNat l).Perm l := by
  induction l with
  | nil => exact .refl _
  | cons n l ih => exact (insertNat_perm n _).trans (ih.cons n)

/-- Inserting keeps the rising order. -/
theorem insertNat_sorted (n : Nat) (l : List Nat) (h : l.Pairwise (· ≤ ·)) : (insertNat n l).Pairwise (· ≤ ·) := by
  induction l with
  | nil => simp [insertNat]
  | cons m l ih =>
    obtain ⟨hm, hl⟩ := List.pairwise_cons.mp h
    unfold insertNat; split
    · rename_i hn
      exact List.pairwise_cons.mpr ⟨fun x hx => by
        rcases List.mem_cons.mp hx with rfl | hx
        · exact hn
        · exact Nat.le_trans hn (hm x hx), h⟩
    · refine List.pairwise_cons.mpr ⟨fun x hx => ?_, ih hl⟩
      rcases List.mem_cons.mp ((insertNat_perm n l).mem_iff.mp hx) with rfl | hx
      · omega
      · exact hm x hx

/-- A sorted list rises. -/
theorem sortNat_sorted (l : List Nat) : (sortNat l).Pairwise (· ≤ ·) := by
  induction l with
  | nil => exact .nil
  | cons n l ih => exact insertNat_sorted n _ ih

/-- In a rising list the place at which a value stands is fixed by how many are below it and how many are no more. -/
theorem getD_of_sorted (l : List Nat) (h : l.Pairwise (· ≤ ·)) (v i : Nat)
    (hi : (l.filter (fun x => decide (x < v))).length ≤ i) (hj : i < (l.filter (fun x => decide (x ≤ v))).length) :
    l.getD i 0 = v := by
  induction l generalizing i with
  | nil => simp at hj
  | cons m l ih =>
    obtain ⟨hm, hl⟩ := List.pairwise_cons.mp h
    rcases Nat.lt_trichotomy m v with hv | hv | hv
    · rw [List.filter_cons_of_pos (by simpa using hv)] at hi
      rw [List.filter_cons_of_pos (by simp; omega)] at hj
      simp only [List.length_cons] at hi hj
      obtain ⟨j, rfl⟩ : ∃ j, i = j + 1 := ⟨i - 1, by omega⟩
      exact ih hl j (by omega) (by omega)
    · subst hv
      have none : l.filter (fun x => decide (x < m)) = [] := by
        simp only [List.filter_eq_nil_iff, decide_eq_true_eq, Nat.not_lt]; exact hm
      cases i with
      | zero => rfl
      | succ j =>
        rw [List.filter_cons_of_pos (by simp)] at hj
        simp only [List.length_cons] at hj
        exact ih hl j (by simp [none]) (by omega)
    · have none : l.filter (fun x => decide (x ≤ v)) = [] := by
        simp only [List.filter_eq_nil_iff, decide_eq_true_eq, Nat.not_le]
        exact fun x hx => by have := hm x hx; omega
      rw [List.filter_cons_of_neg (by simp; omega), none] at hj
      simp at hj

/-- The lower of the middle values, by how many values lie below it and how many are no more (R64). -/
theorem lowerMedian_eq (l : List Nat) (v : Nat)
    (hi : (l.filter (fun x => decide (x < v))).length ≤ (l.length - 1) / 2)
    (hj : (l.length - 1) / 2 < (l.filter (fun x => decide (x ≤ v))).length) : lowerMedian l = v := by
  have p := sortNat_perm l
  exact getD_of_sorted _ (sortNat_sorted l) _ _ (by rw [(p.filter _).length_eq]; exact hi)
    (by rw [(p.filter _).length_eq]; exact hj)

/-- The highest of values that are all no more than one of them (R64). -/
theorem foldl_max_eq (l : List Nat) (v : Nat) (h : v ∈ l) (hv : ∀ x ∈ l, x ≤ v) : l.foldl max 0 = v := by
  have bound : ∀ (l : List Nat) (a : Nat), (∀ x ∈ l, x ≤ v) → a ≤ v → (a = v ∨ v ∈ l) → l.foldl max a = v := by
    intro l
    induction l with
    | nil => intro a _ _ h; simpa using h
    | cons m l ih =>
      intro a hl ha h
      have hm := hl m (by simp)
      refine ih (max a m) (fun x hx => hl x (by simp [hx])) (by omega) ?_
      rcases h with h | h
      · exact .inl (by omega)
      · rcases List.mem_cons.mp h with h | h
        · exact .inl (by omega)
        · exact .inr h
  exact bound l 0 hv (Nat.zero_le v) (.inr h)

end Sys2Proof.Machine
end

