-- ==== Sys2Proof/Laws/State.lean ====
section
/-! SUPPORT. One lemma per field per update, true by rfl: what each small update of State leaves and what it sets. -/
namespace Sys2Proof.Machine

variable (s : State)

@[simp] theorem setEntry_powered (i : Nat) (e : DirEntry) : (State.setEntry i e s).powered = s.powered := rfl
@[simp] theorem setEntry_rom (i : Nat) (e : DirEntry) : (State.setEntry i e s).rom = s.rom := rfl
@[simp] theorem setEntry_time (i : Nat) (e : DirEntry) : (State.setEntry i e s).time = s.time := rfl
@[simp] theorem setEntry_begun (i : Nat) (e : DirEntry) : (State.setEntry i e s).begun = s.begun := rfl
@[simp] theorem setEntry_flm (i : Nat) (e : DirEntry) : (State.setEntry i e s).flm = s.flm := rfl
@[simp] theorem setEntry_ble (i : Nat) (e : DirEntry) : (State.setEntry i e s).ble = s.ble := rfl
@[simp] theorem setEntry_tpc (i : Nat) (e : DirEntry) : (State.setEntry i e s).tpc = s.tpc := rfl
@[simp] theorem setEntry_am (i : Nat) (e : DirEntry) : (State.setEntry i e s).am = s.am := rfl
@[simp] theorem setEntry_es (i : Nat) (e : DirEntry) : (State.setEntry i e s).es = s.es := rfl
@[simp] theorem setEntry_csl (i : Nat) (e : DirEntry) : (State.setEntry i e s).csl = s.csl := rfl
@[simp] theorem setEntry_cap (i : Nat) (e : DirEntry) : (State.setEntry i e s).cap = s.cap := rfl
@[simp] theorem setEntry_nv (i : Nat) (e : DirEntry) : (State.setEntry i e s).nv = s.nv := rfl
@[simp] theorem setEntry_rdu (i : Nat) (e : DirEntry) : (State.setEntry i e s).rdu = s.rdu := rfl
@[simp] theorem setEntry_clp (i : Nat) (e : DirEntry) : (State.setEntry i e s).clp = s.clp := rfl
@[simp] theorem setEntry_pending (i : Nat) (e : DirEntry) : (State.setEntry i e s).pending = s.pending := rfl
@[simp] theorem setEntry_store (i : Nat) (e : DirEntry) : (State.setEntry i e s).store = { s.store with dir := s.store.dir.set i e } :=
  rfl

@[simp] theorem updRecord_powered (i : Nat) (f : RecordInfo → RecordInfo) : (State.updRecord i f s).powered = s.powered := rfl
@[simp] theorem updRecord_rom (i : Nat) (f : RecordInfo → RecordInfo) : (State.updRecord i f s).rom = s.rom := rfl
@[simp] theorem updRecord_time (i : Nat) (f : RecordInfo → RecordInfo) : (State.updRecord i f s).time = s.time := rfl
@[simp] theorem updRecord_begun (i : Nat) (f : RecordInfo → RecordInfo) : (State.updRecord i f s).begun = s.begun := rfl
@[simp] theorem updRecord_flm (i : Nat) (f : RecordInfo → RecordInfo) : (State.updRecord i f s).flm = s.flm := rfl
@[simp] theorem updRecord_ble (i : Nat) (f : RecordInfo → RecordInfo) : (State.updRecord i f s).ble = s.ble := rfl
@[simp] theorem updRecord_tpc (i : Nat) (f : RecordInfo → RecordInfo) : (State.updRecord i f s).tpc = s.tpc := rfl
@[simp] theorem updRecord_am (i : Nat) (f : RecordInfo → RecordInfo) : (State.updRecord i f s).am = s.am := rfl
@[simp] theorem updRecord_es (i : Nat) (f : RecordInfo → RecordInfo) : (State.updRecord i f s).es = s.es := rfl
@[simp] theorem updRecord_csl (i : Nat) (f : RecordInfo → RecordInfo) : (State.updRecord i f s).csl = s.csl := rfl
@[simp] theorem updRecord_cap (i : Nat) (f : RecordInfo → RecordInfo) : (State.updRecord i f s).cap = s.cap := rfl
@[simp] theorem updRecord_nv (i : Nat) (f : RecordInfo → RecordInfo) : (State.updRecord i f s).nv = s.nv := rfl
@[simp] theorem updRecord_rdu (i : Nat) (f : RecordInfo → RecordInfo) : (State.updRecord i f s).rdu = s.rdu := rfl
@[simp] theorem updRecord_clp (i : Nat) (f : RecordInfo → RecordInfo) : (State.updRecord i f s).clp = s.clp := rfl
@[simp] theorem updRecord_pending (i : Nat) (f : RecordInfo → RecordInfo) : (State.updRecord i f s).pending = s.pending := rfl

@[simp] theorem setStored_powered (i : Nat) (e : StoredEntry) : (State.setStored i e s).powered = s.powered := rfl
@[simp] theorem setStored_rom (i : Nat) (e : StoredEntry) : (State.setStored i e s).rom = s.rom := rfl
@[simp] theorem setStored_time (i : Nat) (e : StoredEntry) : (State.setStored i e s).time = s.time := rfl
@[simp] theorem setStored_begun (i : Nat) (e : StoredEntry) : (State.setStored i e s).begun = s.begun := rfl
@[simp] theorem setStored_flm (i : Nat) (e : StoredEntry) : (State.setStored i e s).flm = s.flm := rfl
@[simp] theorem setStored_ble (i : Nat) (e : StoredEntry) : (State.setStored i e s).ble = s.ble := rfl
@[simp] theorem setStored_tpc (i : Nat) (e : StoredEntry) : (State.setStored i e s).tpc = s.tpc := rfl
@[simp] theorem setStored_am (i : Nat) (e : StoredEntry) : (State.setStored i e s).am = s.am := rfl
@[simp] theorem setStored_es (i : Nat) (e : StoredEntry) : (State.setStored i e s).es = s.es := rfl
@[simp] theorem setStored_csl (i : Nat) (e : StoredEntry) : (State.setStored i e s).csl = s.csl := rfl
@[simp] theorem setStored_cap (i : Nat) (e : StoredEntry) : (State.setStored i e s).cap = s.cap := rfl
@[simp] theorem setStored_store (i : Nat) (e : StoredEntry) : (State.setStored i e s).store = s.store := rfl
@[simp] theorem setStored_rdu (i : Nat) (e : StoredEntry) : (State.setStored i e s).rdu = s.rdu := rfl
@[simp] theorem setStored_clp (i : Nat) (e : StoredEntry) : (State.setStored i e s).clp = s.clp := rfl
@[simp] theorem setStored_pending (i : Nat) (e : StoredEntry) : (State.setStored i e s).pending = s.pending := rfl
@[simp] theorem setStored_nv (i : Nat) (e : StoredEntry) : (State.setStored i e s).nv = { s.nv with stored := s.nv.stored.set i e } :=
  rfl

@[simp] theorem setStream_powered (n : StreamNo) (d : Stream) : (State.setStream n d s).powered = s.powered := rfl
@[simp] theorem setStream_rom (n : StreamNo) (d : Stream) : (State.setStream n d s).rom = s.rom := rfl
@[simp] theorem setStream_time (n : StreamNo) (d : Stream) : (State.setStream n d s).time = s.time := rfl
@[simp] theorem setStream_begun (n : StreamNo) (d : Stream) : (State.setStream n d s).begun = s.begun := rfl
@[simp] theorem setStream_flm (n : StreamNo) (d : Stream) : (State.setStream n d s).flm = s.flm := rfl
@[simp] theorem setStream_ble (n : StreamNo) (d : Stream) : (State.setStream n d s).ble = s.ble := rfl
@[simp] theorem setStream_tpc (n : StreamNo) (d : Stream) : (State.setStream n d s).tpc = s.tpc := rfl
@[simp] theorem setStream_am (n : StreamNo) (d : Stream) : (State.setStream n d s).am = s.am := rfl
@[simp] theorem setStream_es (n : StreamNo) (d : Stream) : (State.setStream n d s).es = s.es := rfl
@[simp] theorem setStream_csl (n : StreamNo) (d : Stream) : (State.setStream n d s).csl = s.csl := rfl
@[simp] theorem setStream_cap (n : StreamNo) (d : Stream) : (State.setStream n d s).cap = s.cap := rfl
@[simp] theorem setStream_store (n : StreamNo) (d : Stream) : (State.setStream n d s).store = s.store := rfl
@[simp] theorem setStream_nv (n : StreamNo) (d : Stream) : (State.setStream n d s).nv = s.nv := rfl
@[simp] theorem setStream_clp (n : StreamNo) (d : Stream) : (State.setStream n d s).clp = s.clp := rfl
@[simp] theorem setStream_pending (n : StreamNo) (d : Stream) : (State.setStream n d s).pending = s.pending := rfl
@[simp] theorem setStream_rdu (n : StreamNo) (d : Stream) : (State.setStream n d s).rdu = s.rdu.set n d := rfl

@[simp] theorem setBlend_powered (k : Truck) (b : TruckBlend) : (State.setBlend k b s).powered = s.powered := rfl
@[simp] theorem setBlend_rom (k : Truck) (b : TruckBlend) : (State.setBlend k b s).rom = s.rom := rfl
@[simp] theorem setBlend_time (k : Truck) (b : TruckBlend) : (State.setBlend k b s).time = s.time := rfl
@[simp] theorem setBlend_begun (k : Truck) (b : TruckBlend) : (State.setBlend k b s).begun = s.begun := rfl
@[simp] theorem setBlend_flm (k : Truck) (b : TruckBlend) : (State.setBlend k b s).flm = s.flm := rfl
@[simp] theorem setBlend_tpc (k : Truck) (b : TruckBlend) : (State.setBlend k b s).tpc = s.tpc := rfl
@[simp] theorem setBlend_am (k : Truck) (b : TruckBlend) : (State.setBlend k b s).am = s.am := rfl
@[simp] theorem setBlend_es (k : Truck) (b : TruckBlend) : (State.setBlend k b s).es = s.es := rfl
@[simp] theorem setBlend_csl (k : Truck) (b : TruckBlend) : (State.setBlend k b s).csl = s.csl := rfl
@[simp] theorem setBlend_cap (k : Truck) (b : TruckBlend) : (State.setBlend k b s).cap = s.cap := rfl
@[simp] theorem setBlend_store (k : Truck) (b : TruckBlend) : (State.setBlend k b s).store = s.store := rfl
@[simp] theorem setBlend_nv (k : Truck) (b : TruckBlend) : (State.setBlend k b s).nv = s.nv := rfl
@[simp] theorem setBlend_rdu (k : Truck) (b : TruckBlend) : (State.setBlend k b s).rdu = s.rdu := rfl
@[simp] theorem setBlend_clp (k : Truck) (b : TruckBlend) : (State.setBlend k b s).clp = s.clp := rfl
@[simp] theorem setBlend_pending (k : Truck) (b : TruckBlend) : (State.setBlend k b s).pending = s.pending := rfl
@[simp] theorem setBlend_ble (k : Truck) (b : TruckBlend) : (State.setBlend k b s).ble = { s.ble with trucks := s.ble.trucks.set k b } :=
  rfl

@[simp] theorem setTpc_powered (k : Truck) (c : Tpc) : (State.setTpc k c s).powered = s.powered := rfl
@[simp] theorem setTpc_rom (k : Truck) (c : Tpc) : (State.setTpc k c s).rom = s.rom := rfl
@[simp] theorem setTpc_time (k : Truck) (c : Tpc) : (State.setTpc k c s).time = s.time := rfl
@[simp] theorem setTpc_begun (k : Truck) (c : Tpc) : (State.setTpc k c s).begun = s.begun := rfl
@[simp] theorem setTpc_flm (k : Truck) (c : Tpc) : (State.setTpc k c s).flm = s.flm := rfl
@[simp] theorem setTpc_ble (k : Truck) (c : Tpc) : (State.setTpc k c s).ble = s.ble := rfl
@[simp] theorem setTpc_am (k : Truck) (c : Tpc) : (State.setTpc k c s).am = s.am := rfl
@[simp] theorem setTpc_es (k : Truck) (c : Tpc) : (State.setTpc k c s).es = s.es := rfl
@[simp] theorem setTpc_csl (k : Truck) (c : Tpc) : (State.setTpc k c s).csl = s.csl := rfl
@[simp] theorem setTpc_cap (k : Truck) (c : Tpc) : (State.setTpc k c s).cap = s.cap := rfl
@[simp] theorem setTpc_store (k : Truck) (c : Tpc) : (State.setTpc k c s).store = s.store := rfl
@[simp] theorem setTpc_nv (k : Truck) (c : Tpc) : (State.setTpc k c s).nv = s.nv := rfl
@[simp] theorem setTpc_rdu (k : Truck) (c : Tpc) : (State.setTpc k c s).rdu = s.rdu := rfl
@[simp] theorem setTpc_clp (k : Truck) (c : Tpc) : (State.setTpc k c s).clp = s.clp := rfl
@[simp] theorem setTpc_pending (k : Truck) (c : Tpc) : (State.setTpc k c s).pending = s.pending := rfl
@[simp] theorem setTpc_tpc (k : Truck) (c : Tpc) : (State.setTpc k c s).tpc = s.tpc.set k c := rfl

@[simp] theorem setAxle_powered (a : Axle) (r : AxleRec) : (State.setAxle a r s).powered = s.powered := rfl
@[simp] theorem setAxle_rom (a : Axle) (r : AxleRec) : (State.setAxle a r s).rom = s.rom := rfl
@[simp] theorem setAxle_time (a : Axle) (r : AxleRec) : (State.setAxle a r s).time = s.time := rfl
@[simp] theorem setAxle_begun (a : Axle) (r : AxleRec) : (State.setAxle a r s).begun = s.begun := rfl
@[simp] theorem setAxle_flm (a : Axle) (r : AxleRec) : (State.setAxle a r s).flm = s.flm := rfl
@[simp] theorem setAxle_ble (a : Axle) (r : AxleRec) : (State.setAxle a r s).ble = s.ble := rfl
@[simp] theorem setAxle_tpc (a : Axle) (r : AxleRec) : (State.setAxle a r s).tpc = s.tpc := rfl
@[simp] theorem setAxle_es (a : Axle) (r : AxleRec) : (State.setAxle a r s).es = s.es := rfl
@[simp] theorem setAxle_csl (a : Axle) (r : AxleRec) : (State.setAxle a r s).csl = s.csl := rfl
@[simp] theorem setAxle_cap (a : Axle) (r : AxleRec) : (State.setAxle a r s).cap = s.cap := rfl
@[simp] theorem setAxle_store (a : Axle) (r : AxleRec) : (State.setAxle a r s).store = s.store := rfl
@[simp] theorem setAxle_nv (a : Axle) (r : AxleRec) : (State.setAxle a r s).nv = s.nv := rfl
@[simp] theorem setAxle_rdu (a : Axle) (r : AxleRec) : (State.setAxle a r s).rdu = s.rdu := rfl
@[simp] theorem setAxle_clp (a : Axle) (r : AxleRec) : (State.setAxle a r s).clp = s.clp := rfl
@[simp] theorem setAxle_pending (a : Axle) (r : AxleRec) : (State.setAxle a r s).pending = s.pending := rfl
@[simp] theorem setAxle_am (a : Axle) (r : AxleRec) : (State.setAxle a r s).am = { s.am with axles := s.am.axles.set a r } :=
  rfl

@[simp] theorem setSlide_powered (k : Truck) (r : TruckSlide) : (State.setSlide k r s).powered = s.powered := rfl
@[simp] theorem setSlide_rom (k : Truck) (r : TruckSlide) : (State.setSlide k r s).rom = s.rom := rfl
@[simp] theorem setSlide_time (k : Truck) (r : TruckSlide) : (State.setSlide k r s).time = s.time := rfl
@[simp] theorem setSlide_begun (k : Truck) (r : TruckSlide) : (State.setSlide k r s).begun = s.begun := rfl
@[simp] theorem setSlide_flm (k : Truck) (r : TruckSlide) : (State.setSlide k r s).flm = s.flm := rfl
@[simp] theorem setSlide_ble (k : Truck) (r : TruckSlide) : (State.setSlide k r s).ble = s.ble := rfl
@[simp] theorem setSlide_tpc (k : Truck) (r : TruckSlide) : (State.setSlide k r s).tpc = s.tpc := rfl
@[simp] theorem setSlide_es (k : Truck) (r : TruckSlide) : (State.setSlide k r s).es = s.es := rfl
@[simp] theorem setSlide_csl (k : Truck) (r : TruckSlide) : (State.setSlide k r s).csl = s.csl := rfl
@[simp] theorem setSlide_cap (k : Truck) (r : TruckSlide) : (State.setSlide k r s).cap = s.cap := rfl
@[simp] theorem setSlide_store (k : Truck) (r : TruckSlide) : (State.setSlide k r s).store = s.store := rfl
@[simp] theorem setSlide_nv (k : Truck) (r : TruckSlide) : (State.setSlide k r s).nv = s.nv := rfl
@[simp] theorem setSlide_rdu (k : Truck) (r : TruckSlide) : (State.setSlide k r s).rdu = s.rdu := rfl
@[simp] theorem setSlide_clp (k : Truck) (r : TruckSlide) : (State.setSlide k r s).clp = s.clp := rfl
@[simp] theorem setSlide_pending (k : Truck) (r : TruckSlide) : (State.setSlide k r s).pending = s.pending := rfl
@[simp] theorem setSlide_am (k : Truck) (r : TruckSlide) : (State.setSlide k r s).am = { s.am with trucks := s.am.trucks.set k r } :=
  rfl

@[simp] theorem handSlide_powered : (handSlide s).powered = s.powered := rfl
@[simp] theorem handSlide_rom : (handSlide s).rom = s.rom := rfl
@[simp] theorem handSlide_time : (handSlide s).time = s.time := rfl
@[simp] theorem handSlide_begun : (handSlide s).begun = s.begun := rfl
@[simp] theorem handSlide_flm : (handSlide s).flm = s.flm := rfl
@[simp] theorem handSlide_ble : (handSlide s).ble = s.ble := rfl
@[simp] theorem handSlide_am : (handSlide s).am = s.am := rfl
@[simp] theorem handSlide_es : (handSlide s).es = s.es := rfl
@[simp] theorem handSlide_csl : (handSlide s).csl = s.csl := rfl
@[simp] theorem handSlide_cap : (handSlide s).cap = s.cap := rfl
@[simp] theorem handSlide_store : (handSlide s).store = s.store := rfl
@[simp] theorem handSlide_nv : (handSlide s).nv = s.nv := rfl
@[simp] theorem handSlide_rdu : (handSlide s).rdu = s.rdu := rfl
@[simp] theorem handSlide_clp : (handSlide s).clp = s.clp := rfl
@[simp] theorem handSlide_pending : (handSlide s).pending = s.pending := rfl

@[simp] theorem sendFrame_powered (f : ConsistFrame) (w : Option Window) : (sendFrame f w s).powered = s.powered := rfl
@[simp] theorem sendFrame_rom (f : ConsistFrame) (w : Option Window) : (sendFrame f w s).rom = s.rom := rfl
@[simp] theorem sendFrame_time (f : ConsistFrame) (w : Option Window) : (sendFrame f w s).time = s.time := rfl
@[simp] theorem sendFrame_begun (f : ConsistFrame) (w : Option Window) : (sendFrame f w s).begun = s.begun := rfl
@[simp] theorem sendFrame_flm (f : ConsistFrame) (w : Option Window) : (sendFrame f w s).flm = s.flm := rfl
@[simp] theorem sendFrame_ble (f : ConsistFrame) (w : Option Window) : (sendFrame f w s).ble = s.ble := rfl
@[simp] theorem sendFrame_tpc (f : ConsistFrame) (w : Option Window) : (sendFrame f w s).tpc = s.tpc := rfl
@[simp] theorem sendFrame_am (f : ConsistFrame) (w : Option Window) : (sendFrame f w s).am = s.am := rfl
@[simp] theorem sendFrame_es (f : ConsistFrame) (w : Option Window) : (sendFrame f w s).es = s.es := rfl
@[simp] theorem sendFrame_cap (f : ConsistFrame) (w : Option Window) : (sendFrame f w s).cap = s.cap := rfl
@[simp] theorem sendFrame_store (f : ConsistFrame) (w : Option Window) : (sendFrame f w s).store = s.store := rfl
@[simp] theorem sendFrame_nv (f : ConsistFrame) (w : Option Window) : (sendFrame f w s).nv = s.nv := rfl
@[simp] theorem sendFrame_rdu (f : ConsistFrame) (w : Option Window) : (sendFrame f w s).rdu = s.rdu := rfl
@[simp] theorem sendFrame_clp (f : ConsistFrame) (w : Option Window) : (sendFrame f w s).clp = s.clp := rfl
@[simp] theorem sendFrame_pending (f : ConsistFrame) (w : Option Window) : (sendFrame f w s).pending = s.pending := rfl
@[simp] theorem sendFrame_csl (f : ConsistFrame) (w : Option Window) : (sendFrame f w s).csl = { s.csl with line := .sending f w } :=
  rfl

@[simp] theorem lineIdle_powered : (lineIdle s).powered = s.powered := rfl
@[simp] theorem lineIdle_rom : (lineIdle s).rom = s.rom := rfl
@[simp] theorem lineIdle_time : (lineIdle s).time = s.time := rfl
@[simp] theorem lineIdle_begun : (lineIdle s).begun = s.begun := rfl
@[simp] theorem lineIdle_flm : (lineIdle s).flm = s.flm := rfl
@[simp] theorem lineIdle_ble : (lineIdle s).ble = s.ble := rfl
@[simp] theorem lineIdle_tpc : (lineIdle s).tpc = s.tpc := rfl
@[simp] theorem lineIdle_am : (lineIdle s).am = s.am := rfl
@[simp] theorem lineIdle_es : (lineIdle s).es = s.es := rfl
@[simp] theorem lineIdle_cap : (lineIdle s).cap = s.cap := rfl
@[simp] theorem lineIdle_store : (lineIdle s).store = s.store := rfl
@[simp] theorem lineIdle_nv : (lineIdle s).nv = s.nv := rfl
@[simp] theorem lineIdle_rdu : (lineIdle s).rdu = s.rdu := rfl
@[simp] theorem lineIdle_clp : (lineIdle s).clp = s.clp := rfl
@[simp] theorem lineIdle_pending : (lineIdle s).pending = s.pending := rfl
@[simp] theorem lineIdle_csl : (lineIdle s).csl = { s.csl with line := .idle } := rfl

@[simp] theorem updEntry_powered (i : Nat) (f : Entry → Entry) : (updEntry i f s).powered = s.powered := rfl
@[simp] theorem updEntry_rom (i : Nat) (f : Entry → Entry) : (updEntry i f s).rom = s.rom := rfl
@[simp] theorem updEntry_time (i : Nat) (f : Entry → Entry) : (updEntry i f s).time = s.time := rfl
@[simp] theorem updEntry_begun (i : Nat) (f : Entry → Entry) : (updEntry i f s).begun = s.begun := rfl
@[simp] theorem updEntry_flm (i : Nat) (f : Entry → Entry) : (updEntry i f s).flm = s.flm := rfl
@[simp] theorem updEntry_ble (i : Nat) (f : Entry → Entry) : (updEntry i f s).ble = s.ble := rfl
@[simp] theorem updEntry_tpc (i : Nat) (f : Entry → Entry) : (updEntry i f s).tpc = s.tpc := rfl
@[simp] theorem updEntry_am (i : Nat) (f : Entry → Entry) : (updEntry i f s).am = s.am := rfl
@[simp] theorem updEntry_es (i : Nat) (f : Entry → Entry) : (updEntry i f s).es = s.es := rfl
@[simp] theorem updEntry_cap (i : Nat) (f : Entry → Entry) : (updEntry i f s).cap = s.cap := rfl
@[simp] theorem updEntry_store (i : Nat) (f : Entry → Entry) : (updEntry i f s).store = s.store := rfl
@[simp] theorem updEntry_nv (i : Nat) (f : Entry → Entry) : (updEntry i f s).nv = s.nv := rfl
@[simp] theorem updEntry_rdu (i : Nat) (f : Entry → Entry) : (updEntry i f s).rdu = s.rdu := rfl
@[simp] theorem updEntry_clp (i : Nat) (f : Entry → Entry) : (updEntry i f s).clp = s.clp := rfl
@[simp] theorem updEntry_pending (i : Nat) (f : Entry → Entry) : (updEntry i f s).pending = s.pending := rfl

@[simp] theorem setRoll_powered (r : RollCall) : (setRoll r s).powered = s.powered := rfl
@[simp] theorem setRoll_rom (r : RollCall) : (setRoll r s).rom = s.rom := rfl
@[simp] theorem setRoll_time (r : RollCall) : (setRoll r s).time = s.time := rfl
@[simp] theorem setRoll_begun (r : RollCall) : (setRoll r s).begun = s.begun := rfl
@[simp] theorem setRoll_flm (r : RollCall) : (setRoll r s).flm = s.flm := rfl
@[simp] theorem setRoll_ble (r : RollCall) : (setRoll r s).ble = s.ble := rfl
@[simp] theorem setRoll_tpc (r : RollCall) : (setRoll r s).tpc = s.tpc := rfl
@[simp] theorem setRoll_am (r : RollCall) : (setRoll r s).am = s.am := rfl
@[simp] theorem setRoll_es (r : RollCall) : (setRoll r s).es = s.es := rfl
@[simp] theorem setRoll_cap (r : RollCall) : (setRoll r s).cap = s.cap := rfl
@[simp] theorem setRoll_store (r : RollCall) : (setRoll r s).store = s.store := rfl
@[simp] theorem setRoll_nv (r : RollCall) : (setRoll r s).nv = s.nv := rfl
@[simp] theorem setRoll_rdu (r : RollCall) : (setRoll r s).rdu = s.rdu := rfl
@[simp] theorem setRoll_clp (r : RollCall) : (setRoll r s).clp = s.clp := rfl
@[simp] theorem setRoll_pending (r : RollCall) : (setRoll r s).pending = s.pending := rfl
@[simp] theorem setRoll_csl (r : RollCall) : (setRoll r s).csl = { s.csl with roll := some r } := rfl

@[simp] theorem portIdle_powered : (portIdle s).powered = s.powered := rfl
@[simp] theorem portIdle_rom : (portIdle s).rom = s.rom := rfl
@[simp] theorem portIdle_time : (portIdle s).time = s.time := rfl
@[simp] theorem portIdle_begun : (portIdle s).begun = s.begun := rfl
@[simp] theorem portIdle_flm : (portIdle s).flm = s.flm := rfl
@[simp] theorem portIdle_ble : (portIdle s).ble = s.ble := rfl
@[simp] theorem portIdle_tpc : (portIdle s).tpc = s.tpc := rfl
@[simp] theorem portIdle_am : (portIdle s).am = s.am := rfl
@[simp] theorem portIdle_es : (portIdle s).es = s.es := rfl
@[simp] theorem portIdle_csl : (portIdle s).csl = s.csl := rfl
@[simp] theorem portIdle_cap : (portIdle s).cap = s.cap := rfl
@[simp] theorem portIdle_nv : (portIdle s).nv = s.nv := rfl
@[simp] theorem portIdle_rdu : (portIdle s).rdu = s.rdu := rfl
@[simp] theorem portIdle_clp : (portIdle s).clp = s.clp := rfl
@[simp] theorem portIdle_pending : (portIdle s).pending = s.pending := rfl
@[simp] theorem portIdle_store : (portIdle s).store = { s.store with port := none } := rfl

@[simp] theorem askDir_powered (i : Nat) (k : DirKind) : (askDir i k s).powered = s.powered := rfl
@[simp] theorem askDir_rom (i : Nat) (k : DirKind) : (askDir i k s).rom = s.rom := rfl
@[simp] theorem askDir_time (i : Nat) (k : DirKind) : (askDir i k s).time = s.time := rfl
@[simp] theorem askDir_begun (i : Nat) (k : DirKind) : (askDir i k s).begun = s.begun := rfl
@[simp] theorem askDir_flm (i : Nat) (k : DirKind) : (askDir i k s).flm = s.flm := rfl
@[simp] theorem askDir_ble (i : Nat) (k : DirKind) : (askDir i k s).ble = s.ble := rfl
@[simp] theorem askDir_tpc (i : Nat) (k : DirKind) : (askDir i k s).tpc = s.tpc := rfl
@[simp] theorem askDir_am (i : Nat) (k : DirKind) : (askDir i k s).am = s.am := rfl
@[simp] theorem askDir_es (i : Nat) (k : DirKind) : (askDir i k s).es = s.es := rfl
@[simp] theorem askDir_csl (i : Nat) (k : DirKind) : (askDir i k s).csl = s.csl := rfl
@[simp] theorem askDir_cap (i : Nat) (k : DirKind) : (askDir i k s).cap = s.cap := rfl
@[simp] theorem askDir_nv (i : Nat) (k : DirKind) : (askDir i k s).nv = s.nv := rfl
@[simp] theorem askDir_rdu (i : Nat) (k : DirKind) : (askDir i k s).rdu = s.rdu := rfl
@[simp] theorem askDir_clp (i : Nat) (k : DirKind) : (askDir i k s).clp = s.clp := rfl
@[simp] theorem askDir_pending (i : Nat) (k : DirKind) : (askDir i k s).pending = s.pending := rfl
@[simp] theorem askDir_store (i : Nat) (k : DirKind) : (askDir i k s).store = { s.store with dirQueue := s.store.dirQueue ++ [⟨i, k⟩] } :=
  rfl

@[simp] theorem storePage_powered (i j : Nat) (bs : List SampleBlock) (v : Bool) : (storePage i j bs v s).powered = s.powered := rfl
@[simp] theorem storePage_rom (i j : Nat) (bs : List SampleBlock) (v : Bool) : (storePage i j bs v s).rom = s.rom := rfl
@[simp] theorem storePage_time (i j : Nat) (bs : List SampleBlock) (v : Bool) : (storePage i j bs v s).time = s.time := rfl
@[simp] theorem storePage_begun (i j : Nat) (bs : List SampleBlock) (v : Bool) : (storePage i j bs v s).begun = s.begun := rfl
@[simp] theorem storePage_flm (i j : Nat) (bs : List SampleBlock) (v : Bool) : (storePage i j bs v s).flm = s.flm := rfl
@[simp] theorem storePage_ble (i j : Nat) (bs : List SampleBlock) (v : Bool) : (storePage i j bs v s).ble = s.ble := rfl
@[simp] theorem storePage_tpc (i j : Nat) (bs : List SampleBlock) (v : Bool) : (storePage i j bs v s).tpc = s.tpc := rfl
@[simp] theorem storePage_am (i j : Nat) (bs : List SampleBlock) (v : Bool) : (storePage i j bs v s).am = s.am := rfl
@[simp] theorem storePage_es (i j : Nat) (bs : List SampleBlock) (v : Bool) : (storePage i j bs v s).es = s.es := rfl
@[simp] theorem storePage_csl (i j : Nat) (bs : List SampleBlock) (v : Bool) : (storePage i j bs v s).csl = s.csl := rfl
@[simp] theorem storePage_cap (i j : Nat) (bs : List SampleBlock) (v : Bool) : (storePage i j bs v s).cap = s.cap := rfl
@[simp] theorem storePage_store (i j : Nat) (bs : List SampleBlock) (v : Bool) : (storePage i j bs v s).store = s.store := rfl
@[simp] theorem storePage_rdu (i j : Nat) (bs : List SampleBlock) (v : Bool) : (storePage i j bs v s).rdu = s.rdu := rfl
@[simp] theorem storePage_clp (i j : Nat) (bs : List SampleBlock) (v : Bool) : (storePage i j bs v s).clp = s.clp := rfl
@[simp] theorem storePage_pending (i j : Nat) (bs : List SampleBlock) (v : Bool) : (storePage i j bs v s).pending = s.pending := rfl

@[simp] theorem eraseSlot_powered (i : Nat) : (eraseSlot i s).powered = s.powered := rfl
@[simp] theorem eraseSlot_rom (i : Nat) : (eraseSlot i s).rom = s.rom := rfl
@[simp] theorem eraseSlot_time (i : Nat) : (eraseSlot i s).time = s.time := rfl
@[simp] theorem eraseSlot_begun (i : Nat) : (eraseSlot i s).begun = s.begun := rfl
@[simp] theorem eraseSlot_flm (i : Nat) : (eraseSlot i s).flm = s.flm := rfl
@[simp] theorem eraseSlot_ble (i : Nat) : (eraseSlot i s).ble = s.ble := rfl
@[simp] theorem eraseSlot_tpc (i : Nat) : (eraseSlot i s).tpc = s.tpc := rfl
@[simp] theorem eraseSlot_am (i : Nat) : (eraseSlot i s).am = s.am := rfl
@[simp] theorem eraseSlot_es (i : Nat) : (eraseSlot i s).es = s.es := rfl
@[simp] theorem eraseSlot_csl (i : Nat) : (eraseSlot i s).csl = s.csl := rfl
@[simp] theorem eraseSlot_cap (i : Nat) : (eraseSlot i s).cap = s.cap := rfl
@[simp] theorem eraseSlot_store (i : Nat) : (eraseSlot i s).store = s.store := rfl
@[simp] theorem eraseSlot_rdu (i : Nat) : (eraseSlot i s).rdu = s.rdu := rfl
@[simp] theorem eraseSlot_clp (i : Nat) : (eraseSlot i s).clp = s.clp := rfl
@[simp] theorem eraseSlot_pending (i : Nat) : (eraseSlot i s).pending = s.pending := rfl

@[simp] theorem setProtected_powered (i : Nat) (v : Bool) : (setProtected i v s).powered = s.powered := rfl
@[simp] theorem setProtected_rom (i : Nat) (v : Bool) : (setProtected i v s).rom = s.rom := rfl
@[simp] theorem setProtected_time (i : Nat) (v : Bool) : (setProtected i v s).time = s.time := rfl
@[simp] theorem setProtected_begun (i : Nat) (v : Bool) : (setProtected i v s).begun = s.begun := rfl
@[simp] theorem setProtected_flm (i : Nat) (v : Bool) : (setProtected i v s).flm = s.flm := rfl
@[simp] theorem setProtected_ble (i : Nat) (v : Bool) : (setProtected i v s).ble = s.ble := rfl
@[simp] theorem setProtected_tpc (i : Nat) (v : Bool) : (setProtected i v s).tpc = s.tpc := rfl
@[simp] theorem setProtected_am (i : Nat) (v : Bool) : (setProtected i v s).am = s.am := rfl
@[simp] theorem setProtected_es (i : Nat) (v : Bool) : (setProtected i v s).es = s.es := rfl
@[simp] theorem setProtected_csl (i : Nat) (v : Bool) : (setProtected i v s).csl = s.csl := rfl
@[simp] theorem setProtected_cap (i : Nat) (v : Bool) : (setProtected i v s).cap = s.cap := rfl
@[simp] theorem setProtected_nv (i : Nat) (v : Bool) : (setProtected i v s).nv = s.nv := rfl
@[simp] theorem setProtected_rdu (i : Nat) (v : Bool) : (setProtected i v s).rdu = s.rdu := rfl
@[simp] theorem setProtected_clp (i : Nat) (v : Bool) : (setProtected i v s).clp = s.clp := rfl
@[simp] theorem setProtected_pending (i : Nat) (v : Bool) : (setProtected i v s).pending = s.pending := rfl

@[simp] theorem setWorking_powered (w : Settings) : (setWorking w s).powered = s.powered := rfl
@[simp] theorem setWorking_rom (w : Settings) : (setWorking w s).rom = s.rom := rfl
@[simp] theorem setWorking_time (w : Settings) : (setWorking w s).time = s.time := rfl
@[simp] theorem setWorking_begun (w : Settings) : (setWorking w s).begun = s.begun := rfl
@[simp] theorem setWorking_flm (w : Settings) : (setWorking w s).flm = s.flm := rfl
@[simp] theorem setWorking_ble (w : Settings) : (setWorking w s).ble = s.ble := rfl
@[simp] theorem setWorking_tpc (w : Settings) : (setWorking w s).tpc = s.tpc := rfl
@[simp] theorem setWorking_am (w : Settings) : (setWorking w s).am = s.am := rfl
@[simp] theorem setWorking_es (w : Settings) : (setWorking w s).es = s.es := rfl
@[simp] theorem setWorking_csl (w : Settings) : (setWorking w s).csl = s.csl := rfl
@[simp] theorem setWorking_cap (w : Settings) : (setWorking w s).cap = s.cap := rfl
@[simp] theorem setWorking_store (w : Settings) : (setWorking w s).store = s.store := rfl
@[simp] theorem setWorking_nv (w : Settings) : (setWorking w s).nv = s.nv := rfl
@[simp] theorem setWorking_rdu (w : Settings) : (setWorking w s).rdu = s.rdu := rfl
@[simp] theorem setWorking_pending (w : Settings) : (setWorking w s).pending = s.pending := rfl
@[simp] theorem setWorking_clp (w : Settings) : (setWorking w s).clp = { s.clp with working := w } := rfl

@[simp] theorem markSource_powered (src : Source) : (markSource src s).powered = s.powered := rfl
@[simp] theorem markSource_rom (src : Source) : (markSource src s).rom = s.rom := rfl
@[simp] theorem markSource_time (src : Source) : (markSource src s).time = s.time := rfl
@[simp] theorem markSource_begun (src : Source) : (markSource src s).begun = s.begun := rfl
@[simp] theorem markSource_flm (src : Source) : (markSource src s).flm = s.flm := rfl
@[simp] theorem markSource_ble (src : Source) : (markSource src s).ble = s.ble := rfl
@[simp] theorem markSource_tpc (src : Source) : (markSource src s).tpc = s.tpc := rfl
@[simp] theorem markSource_am (src : Source) : (markSource src s).am = s.am := rfl
@[simp] theorem markSource_es (src : Source) : (markSource src s).es = s.es := rfl
@[simp] theorem markSource_csl (src : Source) : (markSource src s).csl = s.csl := rfl
@[simp] theorem markSource_store (src : Source) : (markSource src s).store = s.store := rfl
@[simp] theorem markSource_nv (src : Source) : (markSource src s).nv = s.nv := rfl
@[simp] theorem markSource_rdu (src : Source) : (markSource src s).rdu = s.rdu := rfl
@[simp] theorem markSource_clp (src : Source) : (markSource src s).clp = s.clp := rfl
@[simp] theorem markSource_pending (src : Source) : (markSource src s).pending = s.pending := rfl

@[simp] theorem answer_powered (f : ReqFrame) (st : ReplyStatus) (p : List Byte) : (answer f st p s).powered = s.powered := rfl
@[simp] theorem answer_rom (f : ReqFrame) (st : ReplyStatus) (p : List Byte) : (answer f st p s).rom = s.rom := rfl
@[simp] theorem answer_time (f : ReqFrame) (st : ReplyStatus) (p : List Byte) : (answer f st p s).time = s.time := rfl
@[simp] theorem answer_begun (f : ReqFrame) (st : ReplyStatus) (p : List Byte) : (answer f st p s).begun = s.begun := rfl
@[simp] theorem answer_flm (f : ReqFrame) (st : ReplyStatus) (p : List Byte) : (answer f st p s).flm = s.flm := rfl
@[simp] theorem answer_ble (f : ReqFrame) (st : ReplyStatus) (p : List Byte) : (answer f st p s).ble = s.ble := rfl
@[simp] theorem answer_tpc (f : ReqFrame) (st : ReplyStatus) (p : List Byte) : (answer f st p s).tpc = s.tpc := rfl
@[simp] theorem answer_am (f : ReqFrame) (st : ReplyStatus) (p : List Byte) : (answer f st p s).am = s.am := rfl
@[simp] theorem answer_es (f : ReqFrame) (st : ReplyStatus) (p : List Byte) : (answer f st p s).es = s.es := rfl
@[simp] theorem answer_csl (f : ReqFrame) (st : ReplyStatus) (p : List Byte) : (answer f st p s).csl = s.csl := rfl
@[simp] theorem answer_cap (f : ReqFrame) (st : ReplyStatus) (p : List Byte) : (answer f st p s).cap = s.cap := rfl
@[simp] theorem answer_store (f : ReqFrame) (st : ReplyStatus) (p : List Byte) : (answer f st p s).store = s.store := rfl
@[simp] theorem answer_nv (f : ReqFrame) (st : ReplyStatus) (p : List Byte) : (answer f st p s).nv = s.nv := rfl
@[simp] theorem answer_rdu (f : ReqFrame) (st : ReplyStatus) (p : List Byte) : (answer f st p s).rdu = s.rdu := rfl
@[simp] theorem answer_pending (f : ReqFrame) (st : ReplyStatus) (p : List Byte) : (answer f st p s).pending = s.pending := rfl
@[simp] theorem answer_clp (f : ReqFrame) (st : ReplyStatus) (p : List Byte) : (answer f st p s).clp = { s.clp with queue := s.clp.queue.tail, held := false, replySlot := some (replyTo f st p) } :=
  rfl

end Sys2Proof.Machine
end

