-- ==== Sys2Proof/Laws/Frames.lean ====
section
/-! SUPPORT. What each shared operation leaves as it was: a notice, a trigger, taking a request, the idle port and line
taking what waits. The provers cite these instead of unfolding the operations. -/
namespace Sys2Proof.Machine

/-- The fields that neither a notice nor a trigger touches. -/
def outside (s : State) :=
  (s.powered, s.rom, s.time, s.begun, s.flm, s.ble, s.tpc, s.am, s.es, s.csl, s.nv, s.pending)

/-- CLP without its notice queue and lost-notice count. -/
def linkOutside (s : State) := { s.clp with notices := [], lostNotices := 0 }

/-- The capture unit without its marks, record, state, pending list and counts. -/
def sealsOf (s : State) := (s.cap.fill, s.cap.sealTicks, s.cap.ring)

variable (s t : State)

/-! ## Notices -/

theorem raise_split (b : NoticeBody) :
    (s.clp.notices.length < 16 ∧
      raise b s = { s with clp := { s.clp with notices := s.clp.notices ++ [⟨s.time, b⟩] } }) ∨
    (16 ≤ s.clp.notices.length ∧
      raise b s = { s with clp := { s.clp with lostNotices := bump16 s.clp.lostNotices } }) := by
  unfold raise
  split
  · exact Or.inl ⟨‹_›, rfl⟩
  · exact Or.inr ⟨by omega, rfl⟩

theorem raise_outside (b : NoticeBody) : outside (raise b s) = outside s := by
  unfold raise; split <;> rfl

theorem raise_linkOutside (b : NoticeBody) : linkOutside (raise b s) = linkOutside s := by
  unfold raise; split <;> rfl

theorem raise_notices_le (b : NoticeBody) (h : s.clp.notices.length ≤ 16) :
    (raise b s).clp.notices.length ≤ 16 := by
  unfold raise; split
  · simp; omega
  · exact h

@[simp] theorem raise_cap (b : NoticeBody) : (raise b s).cap = s.cap := by unfold raise; split <;> rfl
@[simp] theorem raise_store (b : NoticeBody) : (raise b s).store = s.store := by unfold raise; split <;> rfl
@[simp] theorem raise_rdu (b : NoticeBody) : (raise b s).rdu = s.rdu := by unfold raise; split <;> rfl
@[simp] theorem raise_powered (b : NoticeBody) : (raise b s).powered = s.powered := by unfold raise; split <;> rfl
@[simp] theorem raise_rom (b : NoticeBody) : (raise b s).rom = s.rom := by unfold raise; split <;> rfl
@[simp] theorem raise_time (b : NoticeBody) : (raise b s).time = s.time := by unfold raise; split <;> rfl
@[simp] theorem raise_begun (b : NoticeBody) : (raise b s).begun = s.begun := by unfold raise; split <;> rfl
@[simp] theorem raise_flm (b : NoticeBody) : (raise b s).flm = s.flm := by unfold raise; split <;> rfl
@[simp] theorem raise_ble (b : NoticeBody) : (raise b s).ble = s.ble := by unfold raise; split <;> rfl
@[simp] theorem raise_tpc (b : NoticeBody) : (raise b s).tpc = s.tpc := by unfold raise; split <;> rfl
@[simp] theorem raise_am (b : NoticeBody) : (raise b s).am = s.am := by unfold raise; split <;> rfl
@[simp] theorem raise_es (b : NoticeBody) : (raise b s).es = s.es := by unfold raise; split <;> rfl
@[simp] theorem raise_csl (b : NoticeBody) : (raise b s).csl = s.csl := by unfold raise; split <;> rfl
@[simp] theorem raise_nv (b : NoticeBody) : (raise b s).nv = s.nv := by unfold raise; split <;> rfl
@[simp] theorem raise_pending (b : NoticeBody) : (raise b s).pending = s.pending := by unfold raise; split <;> rfl

@[simp] theorem raise_working (b : NoticeBody) : (raise b s).clp.working = s.clp.working := by
  unfold raise; split <;> rfl

/-- Two states that agree outside notices and triggers agree in each of those fields. -/
theorem outside_powered (h : outside t = outside s) : t.powered = s.powered := congrArg (fun x => x.1) h
theorem outside_rom (h : outside t = outside s) : t.rom = s.rom := congrArg (fun x => x.2.1) h
theorem outside_time (h : outside t = outside s) : t.time = s.time := congrArg (fun x => x.2.2.1) h
theorem outside_begun (h : outside t = outside s) : t.begun = s.begun := congrArg (fun x => x.2.2.2.1) h
theorem outside_flm (h : outside t = outside s) : t.flm = s.flm := congrArg (fun x => x.2.2.2.2.1) h
theorem outside_ble (h : outside t = outside s) : t.ble = s.ble := congrArg (fun x => x.2.2.2.2.2.1) h
theorem outside_tpc (h : outside t = outside s) : t.tpc = s.tpc := congrArg (fun x => x.2.2.2.2.2.2.1) h
theorem outside_am (h : outside t = outside s) : t.am = s.am := congrArg (fun x => x.2.2.2.2.2.2.2.1) h
theorem outside_es (h : outside t = outside s) : t.es = s.es := congrArg (fun x => x.2.2.2.2.2.2.2.2.1) h
theorem outside_csl (h : outside t = outside s) : t.csl = s.csl := congrArg (fun x => x.2.2.2.2.2.2.2.2.2.1) h
theorem outside_nv (h : outside t = outside s) : t.nv = s.nv := congrArg (fun x => x.2.2.2.2.2.2.2.2.2.2.1) h
theorem outside_pending (h : outside t = outside s) : t.pending = s.pending := congrArg (fun x => x.2.2.2.2.2.2.2.2.2.2.2) h

/-! ## Triggers -/

theorem completeStream_outside (n : StreamNo) (c : Completion) : outside (completeStream n c s) = outside s := by
  simp only [completeStream, raise_outside]; rfl

theorem completeStream_linkOutside (n : StreamNo) (c : Completion) :
    linkOutside (completeStream n c s) = linkOutside s := by
  simp only [completeStream, raise_linkOutside]; rfl

theorem completeStream_cap (n : StreamNo) (c : Completion) : (completeStream n c s).cap = s.cap := by
  simp [completeStream]

theorem decideStream_frame (n : StreamNo) (c : Completion) :
    outside (decideStream n c s) = outside s ∧ linkOutside (decideStream n c s) = linkOutside s ∧
      (decideStream n c s).cap = s.cap := by
  unfold decideStream
  dsimp only
  split
  · split
    · exact ⟨rfl, rfl, rfl⟩
    · exact ⟨(completeStream_outside _ _ _).trans rfl, (completeStream_linkOutside _ _ _).trans rfl,
        (completeStream_cap _ _ _).trans rfl⟩
  · exact ⟨rfl, rfl, rfl⟩

theorem recordGone_frame (k : Nat) (n : StreamNo) :
    outside (recordGone k n s) = outside s ∧ linkOutside (recordGone k n s) = linkOutside s ∧
      (recordGone k n s).cap = s.cap := by
  unfold recordGone
  split
  · exact decideStream_frame s n _
  · exact ⟨rfl, rfl, rfl⟩

theorem scrubStart_frame (fuel : Nat) : ∀ s : State,
    outside (scrubStart fuel s) = outside s ∧ linkOutside (scrubStart fuel s) = linkOutside s ∧
      (scrubStart fuel s).cap = s.cap := by
  induction fuel with
  | zero => exact fun s => ⟨rfl, rfl, rfl⟩
  | succ k ih =>
    intro s
    unfold scrubStart
    split
    · exact ⟨rfl, rfl, rfl⟩
    · split
      · dsimp only
        split
        · exact ⟨(ih _).1.trans rfl, (ih _).2.1.trans rfl, (ih _).2.2.trans rfl⟩
        · exact ⟨rfl, rfl, rfl⟩
      · exact ⟨rfl, rfl, rfl⟩

theorem scrubEnd_frame :
    outside (scrubEnd s) = outside s ∧ linkOutside (scrubEnd s) = linkOutside s ∧ (scrubEnd s).cap = s.cap := by
  unfold scrubEnd
  dsimp only
  split
  · exact ⟨(scrubStart_frame 2 _).1.trans rfl, (scrubStart_frame 2 _).2.1.trans rfl,
      (scrubStart_frame 2 _).2.2.trans rfl⟩
  · exact ⟨rfl, rfl, rfl⟩

theorem scrubAbandon_frame (k : Nat) :
    outside (scrubAbandon k s) = outside s ∧ linkOutside (scrubAbandon k s) = linkOutside s ∧
      (scrubAbandon k s).cap = s.cap := by
  unfold scrubAbandon
  split
  · exact ⟨rfl, rfl, rfl⟩
  · split
    · exact ⟨(scrubEnd_frame _).1.trans rfl, (scrubEnd_frame _).2.1.trans rfl, (scrubEnd_frame _).2.2.trans rfl⟩
    · exact ⟨rfl, rfl, rfl⟩

theorem slotGone_frame (k n : Nat) :
    outside (slotGone k n s) = outside s ∧ linkOutside (slotGone k n s) = linkOutside s ∧
      (slotGone k n s).cap = s.cap := by
  have h0 := recordGone_frame s n .s0
  have h1 := recordGone_frame (recordGone n .s0 s) n .s1
  unfold slotGone
  dsimp only
  have h2 := scrubAbandon_frame
    { recordGone n .s1 (recordGone n .s0 s) with
      store := { (recordGone n .s1 (recordGone n .s0 s)).store with
        dirQueue := (recordGone n .s1 (recordGone n .s0 s)).store.dirQueue.filter (fun w => w.slot != k) } } k
  exact ⟨h2.1.trans (h1.1.trans h0.1), h2.2.1.trans (h1.2.1.trans h0.2.1), h2.2.2.trans (h1.2.2.trans h0.2.2)⟩

theorem openCapture_refuse_frame (p : PendingTrigger) :
    outside (openCapture.refuse p s) = outside s ∧ linkOutside (openCapture.refuse p s) = linkOutside s ∧
      sealsOf (openCapture.refuse p s) = sealsOf s ∧ (openCapture.refuse p s).cap.waiting = s.cap.waiting := by
  unfold openCapture.refuse
  exact ⟨(raise_outside _ _).trans rfl, (raise_linkOutside _ _).trans rfl, by simp [sealsOf], by simp⟩

theorem openCapture_frame (p : PendingTrigger) (pre : Nat) :
    outside (openCapture p pre s) = outside s ∧ linkOutside (openCapture p pre s) = linkOutside s ∧
      sealsOf (openCapture p pre s) = sealsOf s ∧ (openCapture p pre s).cap.waiting = s.cap.waiting := by
  unfold openCapture
  dsimp only
  split
  · split
    · exact ⟨rfl, rfl, rfl, rfl⟩
    · rename_i slot old _ _
      have h := slotGone_frame (s.setEntry slot ⟨.erasing, some (openingInfo p pre s)⟩) slot old
      refine ⟨h.1.trans rfl, h.2.1.trans rfl, ?_, ?_⟩
      · have := congrArg (fun c : Cap => (c.fill, c.sealTicks, c.ring)) h.2.2
        exact this.trans rfl
      · exact (congrArg Cap.waiting h.2.2).trans rfl
    · exact openCapture_refuse_frame s p
  · exact openCapture_refuse_frame s p

theorem pend_frame (p : PendingTrigger) :
    outside (pend p s) = outside s ∧ linkOutside (pend p s) = linkOutside s ∧ sealsOf (pend p s) = sealsOf s := by
  unfold pend; split <;> exact ⟨rfl, rfl, rfl⟩

theorem pend_waiting_le (p : PendingTrigger) (h : s.cap.waiting.length ≤ 4) : (pend p s).cap.waiting.length ≤ 4 := by
  unfold pend; split
  · simp; omega
  · exact h

theorem takeAdmitted_frame (src : Source) (again : Bool) :
    outside (takeAdmitted src again s) = outside s ∧ linkOutside (takeAdmitted src again s) = linkOutside s ∧
      sealsOf (takeAdmitted src again s) = sealsOf s ∧
      (s.cap.waiting.length ≤ 4 → (takeAdmitted src again s).cap.waiting.length ≤ 4) := by
  have same : outside s = outside s ∧ linkOutside s = linkOutside s ∧ sealsOf s = sealsOf s ∧
      (s.cap.waiting.length ≤ 4 → s.cap.waiting.length ≤ 4) := ⟨rfl, rfl, rfl, id⟩
  have pended (p : PendingTrigger) : outside (pend p s) = outside s ∧ linkOutside (pend p s) = linkOutside s ∧
      sealsOf (pend p s) = sealsOf s ∧ (s.cap.waiting.length ≤ 4 → (pend p s).cap.waiting.length ≤ 4) :=
    ⟨(pend_frame s p).1, (pend_frame s p).2.1, (pend_frame s p).2.2, pend_waiting_le s p⟩
  unfold takeAdmitted
  dsimp only
  split
  · split
    · exact same
    · have h := openCapture_frame s (s.triggerNow src) (min (s.triggerNow src).pre s.cap.ring.length)
      exact ⟨h.1, h.2.1, h.2.2.1, fun w => by rw [h.2.2.2]; exact w⟩
  · split
    · exact same
    · exact pended _
  all_goals
    split
    · exact same
    · split
      · exact ⟨rfl, rfl, rfl, id⟩
      · split
        · exact same
        · exact pended _

/-- Everything a trigger leaves as it was. -/
theorem trigger_frame (src : Source) (again : Bool) :
    outside (trigger src again s) = outside s ∧ linkOutside (trigger src again s) = linkOutside s ∧
      sealsOf (trigger src again s) = sealsOf s ∧
      (s.cap.waiting.length ≤ 4 → (trigger src again s).cap.waiting.length ≤ 4) := by
  unfold trigger
  dsimp only
  split
  · have h := takeAdmitted_frame (markSource src s) src again
    exact ⟨h.1.trans rfl, h.2.1.trans rfl, h.2.2.1.trans rfl, h.2.2.2⟩
  · exact ⟨rfl, rfl, rfl, id⟩

@[simp] theorem trigger_powered (src : Source) (again : Bool) : (trigger src again s).powered = s.powered :=
  outside_powered _ _ (trigger_frame s src again).1
@[simp] theorem trigger_rom (src : Source) (again : Bool) : (trigger src again s).rom = s.rom :=
  outside_rom _ _ (trigger_frame s src again).1
@[simp] theorem trigger_time (src : Source) (again : Bool) : (trigger src again s).time = s.time :=
  outside_time _ _ (trigger_frame s src again).1
@[simp] theorem trigger_begun (src : Source) (again : Bool) : (trigger src again s).begun = s.begun :=
  outside_begun _ _ (trigger_frame s src again).1
@[simp] theorem trigger_flm (src : Source) (again : Bool) : (trigger src again s).flm = s.flm :=
  outside_flm _ _ (trigger_frame s src again).1
@[simp] theorem trigger_ble (src : Source) (again : Bool) : (trigger src again s).ble = s.ble :=
  outside_ble _ _ (trigger_frame s src again).1
@[simp] theorem trigger_tpc (src : Source) (again : Bool) : (trigger src again s).tpc = s.tpc :=
  outside_tpc _ _ (trigger_frame s src again).1
@[simp] theorem trigger_am (src : Source) (again : Bool) : (trigger src again s).am = s.am :=
  outside_am _ _ (trigger_frame s src again).1
@[simp] theorem trigger_es (src : Source) (again : Bool) : (trigger src again s).es = s.es :=
  outside_es _ _ (trigger_frame s src again).1
@[simp] theorem trigger_csl (src : Source) (again : Bool) : (trigger src again s).csl = s.csl :=
  outside_csl _ _ (trigger_frame s src again).1
@[simp] theorem trigger_nv (src : Source) (again : Bool) : (trigger src again s).nv = s.nv :=
  outside_nv _ _ (trigger_frame s src again).1
@[simp] theorem trigger_pending (src : Source) (again : Bool) : (trigger src again s).pending = s.pending :=
  outside_pending _ _ (trigger_frame s src again).1
@[simp] theorem trigger_working (src : Source) (again : Bool) :
    (trigger src again s).clp.working = s.clp.working := by
  have h := congrArg Clp.working (trigger_frame s src again).2.1
  exact h

end Sys2Proof.Machine
end

