-- ==== Sys2Proof/Laws/Blend.lean ====
section
/-! SUPPORT. What the steps of a recompute leave as they were, and the bounds of a portion: a truck's dynamic target never
exceeds its capacity, nor the own share the own capacity (R26). -/
namespace Sys2Proof.Machine

/-- What the shortfall steps of a recompute keep: everything a recompute reads but the shortfall states, their timers and
the DB fault latches. -/
structure KeepsBraking (s t : State) : Prop where
  flm : t.flm = s.flm
  tpc : t.tpc = s.tpc
  am : t.am = s.am
  es : t.es = s.es
  csl : t.csl = s.csl
  working : t.clp.working = s.clp.working
  master : t.ble.master = s.ble.master
  follow : t.ble.follow = s.ble.follow
  truck : ∀ k, (t.ble.trucks.get k).request = (s.ble.trucks.get k).request ∧
    (t.ble.trucks.get k).airTarget = (s.ble.trucks.get k).airTarget ∧
    (t.ble.trucks.get k).enable = (s.ble.trucks.get k).enable

theorem KeepsBraking.refl (s : State) : KeepsBraking s s := ⟨rfl, rfl, rfl, rfl, rfl, rfl, rfl, rfl, fun _ => ⟨rfl, rfl, rfl⟩⟩

theorem KeepsBraking.trans {s t u : State} (h : KeepsBraking s t) (k : KeepsBraking t u) : KeepsBraking s u :=
  ⟨k.flm.trans h.flm, k.tpc.trans h.tpc, k.am.trans h.am, k.es.trans h.es, k.csl.trans h.csl, k.working.trans h.working,
    k.master.trans h.master, k.follow.trans h.follow, fun x => ⟨(k.truck x).1.trans (h.truck x).1,
      (k.truck x).2.1.trans (h.truck x).2.1, (k.truck x).2.2.trans (h.truck x).2.2⟩⟩

theorem latchDbFault_keeps (k : Truck) (s : State) : KeepsBraking s (latchDbFault k s) := by
  unfold latchDbFault
  dsimp only
  split
  · constructor <;> simp [State.setBlend]
    intro j; cases j <;> cases k <;> simp [PerTruck.get, PerTruck.set]
  · exact KeepsBraking.refl s

theorem belowStep_keeps (s : State) (k : Truck) :
    (belowStep s k).request = (s.ble.trucks.get k).request ∧ (belowStep s k).airTarget = (s.ble.trucks.get k).airTarget ∧
      (belowStep s k).enable = (s.ble.trucks.get k).enable := by
  unfold belowStep TruckBlend.enterShortfall; dsimp only; split <;> [split; split] <;> simp

theorem clearStep_keeps (s : State) (k : Truck) :
    (clearStep s k).request = (s.ble.trucks.get k).request ∧ (clearStep s k).airTarget = (s.ble.trucks.get k).airTarget ∧
      (clearStep s k).enable = (s.ble.trucks.get k).enable := by
  unfold clearStep TruckBlend.clearShortfall TruckBlend.toNormal; dsimp only; split <;> [split; skip] <;> simp

/-- Everything the shortfall steps leave as it was. -/
theorem shortfallSteps_keeps (s : State) : KeepsBraking s (shortfallSteps s) := by
  unfold shortfallSteps
  dsimp only
  refine KeepsBraking.trans (KeepsBraking.trans
    (t := { s with ble := { s.ble with trucks := ⟨belowStep s .t1, belowStep s .t2⟩ } }) ?_ ?_)
    ((latchDbFault_keeps .t1 _).trans (latchDbFault_keeps .t2 _))
  · constructor <;> try rfl
    intro j; cases j <;> exact belowStep_keeps s _
  · constructor <;> try rfl
    intro j; cases j <;> exact clearStep_keeps _ _

/-- A portion of a part that is no more than the whole is no more than what is divided. -/
theorem portion_le_of_part (n part whole : Nat) (h : part ≤ whole) : portion n part whole ≤ n := by
  unfold portion; split
  · omega
  · exact Nat.div_le_of_le_mul (by rw [Nat.mul_comm]; exact Nat.mul_le_mul_right _ h)

/-- A portion of no more than the whole is no more than the part. -/
theorem portion_le_part (n part whole : Nat) (h : n ≤ whole) : portion n part whole ≤ part := by
  unfold portion; split
  · omega
  · exact Nat.div_le_of_le_mul (Nat.mul_le_mul_right _ h)

/-- The portions of the parts of a whole come to no more than what is divided. -/
theorem portion_sum_le (d whole : Nat) (f : Entry → Nat) (l : List Entry) (a : Nat) (h : a + (l.map f).sum = whole) :
    portion d a whole + (l.map (fun e => portion d (f e) whole)).sum ≤ d := by
  unfold portion
  by_cases hT : whole = 0
  · simp [hT]
  · simp only [hT, if_false]
    have key : ∀ l : List Entry, whole * (l.map (fun e => d * f e / whole)).sum ≤ d * (l.map f).sum := by
      intro l; induction l with
      | nil => simp
      | cons x l ih =>
        simp only [List.map_cons, List.sum_cons, Nat.mul_add]
        exact Nat.add_le_add (Nat.mul_div_le _ _) ih
    have h1 := key l
    have h2 := Nat.mul_div_le (d * a) whole
    have : whole * (d * a / whole + (l.map (fun e => d * f e / whole)).sum) ≤ whole * d := by
      rw [Nat.mul_add, Nat.mul_comm whole d, ← h, Nat.mul_add]
      rw [← h] at h1 h2
      exact Nat.add_le_add h2 h1
    exact Nat.le_of_mul_le_mul_left this (Nat.pos_of_ne_zero hT)

/-- The own share is no more than the own capacity. -/
theorem ownShare_le (s : State) (own : Nat) : s.ownShare own ≤ own := by
  unfold State.ownShare; split
  · omega
  · exact portion_le_part _ _ _ (by omega)

/-- A truck's target is no more than its capacity. -/
theorem targetOf_le (s : State) (mine own : Nat) : s.targetOf mine own ≤ mine := portion_le_part _ _ _ (ownShare_le s own)

end Sys2Proof.Machine
end

