-- ==== Sys2Proof/Laws/Memory.lean ====
section
/-! SUPPORT. The record area of the store keeps its canonical form: a page write and a slot erase leave the addresses
strictly rising, and a written page reads back. -/
namespace Sys2Proof.Machine

theorem pagesWrite_mem (a : Nat) (p : Page) : ∀ ps q, q ∈ pagesWrite a p ps → q.1 = a ∨ q ∈ ps
  | [], q, h => by
    simp [pagesWrite] at h; exact Or.inl (by rw [h])
  | (b, r) :: rest, q, h => by
    unfold pagesWrite at h
    split at h
    · rcases List.mem_cons.1 h with h | h
      · exact Or.inl (by rw [h])
      · exact Or.inr h
    · split at h
      · rcases List.mem_cons.1 h with h | h
        · exact Or.inl (by rw [h])
        · exact Or.inr (List.mem_cons_of_mem _ h)
      · rcases List.mem_cons.1 h with h | h
        · exact Or.inr (by rw [h]; exact List.mem_cons_self)
        · rcases pagesWrite_mem a p rest q h with h | h
          · exact Or.inl h
          · exact Or.inr (List.mem_cons_of_mem _ h)

/-- A page write keeps the canonical form. -/
theorem pagesWrite_wf (a : Nat) (p : Page) : ∀ ps, Memory.wf ps = true → Memory.wf (pagesWrite a p ps) = true
  | [], _ => rfl
  | (b, r) :: rest, h => by
    have h' : (∀ q ∈ rest, b < q.1) ∧ Memory.wf rest = true := by
      simpa [Memory.wf, List.all_eq_true] using h
    unfold pagesWrite
    split
    · rename_i hab
      have : ∀ q ∈ (b, r) :: rest, a < q.1 := by
        intro q hq
        rcases List.mem_cons.1 hq with hq | hq
        · rw [hq]; exact hab
        · exact Nat.lt_trans hab (h'.1 q hq)
      simp only [Memory.wf, Bool.and_eq_true, List.all_eq_true, decide_eq_true_eq]
      exact ⟨this, h'.1, h'.2⟩
    · split
      · rename_i _ hab
        simp only [Memory.wf, Bool.and_eq_true, List.all_eq_true, decide_eq_true_eq]
        exact ⟨fun q hq => hab ▸ h'.1 q hq, h'.2⟩
      · rename_i h1 h2
        simp only [Memory.wf, Bool.and_eq_true, List.all_eq_true, decide_eq_true_eq]
        refine ⟨fun q hq => ?_, pagesWrite_wf a p rest h'.2⟩
        rcases pagesWrite_mem a p rest q hq with e | e
        · rw [e]; omega
        · exact h'.1 q e

theorem wf_filter (f : Nat × Page → Bool) : ∀ ps, Memory.wf ps = true → Memory.wf (ps.filter f) = true
  | [], _ => rfl
  | (b, r) :: rest, h => by
    have h' : (∀ q ∈ rest, b < q.1) ∧ Memory.wf rest = true := by
      simpa [Memory.wf, List.all_eq_true] using h
    rw [List.filter_cons]
    split
    · simp only [Memory.wf, Bool.and_eq_true, List.all_eq_true, decide_eq_true_eq]
      exact ⟨fun q hq => h'.1 q ((List.mem_filter.1 hq).1), wf_filter f rest h'.2⟩
    · exact wf_filter f rest h'.2

/-- A slot erase keeps the canonical form. -/
theorem pagesErase_wf (slot : Nat) (ps : List (Nat × Page)) (h : Memory.wf ps = true) :
    Memory.wf (pagesErase slot ps) = true := wf_filter _ ps h

/-- The memory after reset is in canonical form. -/
theorem reset_pages_wf : Memory.wf State.reset.nv.pages = true := rfl

/-- A page written reads back. -/
theorem pagesRead_write_self (a : Nat) (p : Page) : ∀ ps, pagesRead (pagesWrite a p ps) a = some p
  | [] => by simp [pagesWrite, pagesRead]
  | (b, r) :: rest => by
    unfold pagesWrite
    split
    · simp [pagesRead]
    · split
      · simp [pagesRead]
      · rename_i h1 h2
        have hb : ¬ b = a := fun e => h2 e.symm
        have := pagesRead_write_self a p rest
        simpa [pagesRead, hb] using this

/-- A page write leaves every other page as it was. -/
theorem pagesRead_write_other (a : Nat) (p : Page) (c : Nat) (hc : c ≠ a) :
    ∀ ps, pagesRead (pagesWrite a p ps) c = pagesRead ps c
  | [] => by simp [pagesWrite, pagesRead, Ne.symm hc]
  | (b, r) :: rest => by
    unfold pagesWrite
    split
    · simp [pagesRead, Ne.symm hc]
    · split
      · rename_i _ hab
        subst hab
        simp [pagesRead, Ne.symm hc]
      · have := pagesRead_write_other a p c hc rest
        by_cases hbc : b = c
        · simp [pagesRead, hbc]
        · simpa [pagesRead, hbc] using this

/-- A slot erase leaves the pages of every other slot as they were. -/
theorem pagesRead_erase_other (slot x p : Nat) (hp : p < Config.pagesPerSlot) (hx : x ≠ slot) :
    ∀ ps, pagesRead (pagesErase x ps) (pageAddr slot p) = pagesRead ps (pageAddr slot p)
  | [] => rfl
  | q :: rest => by
    have ih := pagesRead_erase_other slot x p hp hx rest
    unfold pagesErase at ih ⊢
    rw [List.filter_cons]
    by_cases hq : q.1 = pageAddr slot p
    · have kept : (!(decide (pageAddr x 0 ≤ q.1) && decide (q.1 < pageAddr (x + 1) 0))) = true := by
        simp only [Config.pagesPerSlot] at hp
        simp [pageAddr, Config.pagesPerSlot, hq]; omega
      rw [if_pos kept]; simp [pagesRead, hq]
    · split <;> simpa [pagesRead, hq] using ih

end Sys2Proof.Machine
end

