-- ==== Sys2Proof/Laws/PerInstr.lean ====
section
/-! SUPPORT. One statement for each command as syntax: the payload of a well-formed request command fits a control link
frame (length byte at most 250, of which kind and tag are two, R177). -/
namespace Sys2Proof.Laws.PayloadFits

open Sys2Proof Sys2Proof.Machine

/-- The payload of a well-formed request fits its frame; any other command is no request. -/
def Statement (i : Instr) : Prop := ∀ row f, requestOf i = some (row, f) → i.wf = true → f.payload.length ≤ 248

theorem payloadFits_le (p : List Byte) (h : payloadFits p = true) : p.length ≤ 248 := of_decide_eq_true h

/-- A command that is no request. -/
theorem of_none {i : Instr} (h : requestOf i = none) : Statement i := fun _ _ e => nomatch h.symm.trans e

/-- A request whose check holds its payload to what a frame takes. -/
theorem of_some {i : Instr} {row : ReqRow} {f : ReqFrame} (h : requestOf i = some (row, f))
    (fits : i.wf = true → payloadFits f.payload = true) : Statement i := fun _ _ e w => by
  cases h.symm.trans e
  exact payloadFits_le _ (fits w)

/-- A check of several clauses gives its first. -/
theorem left {a b : Bool} (h : (a && b) = true) : a = true := (Bool.and_eq_true_iff.mp h).1

theorem powerOn (f : ScanFaults) : Statement (.powerOn f) := of_none rfl
theorem fieldCycleStart : Statement (.fieldCycleStart) := of_none rfl
theorem fieldCycleDecision (d : CycleEnd) : Statement (.fieldCycleDecision d) := of_none rfl
theorem fieldLinkUp (d : CycleEnd) : Statement (.fieldLinkUp d) := of_none rfl
theorem fieldLinkLost (d : CycleEnd) : Statement (.fieldLinkLost d) := of_none rfl
theorem shortfallEntry (t : Truck) (d : Option CycleEnd) : Statement (.shortfallEntry t d) := of_none rfl
theorem shortfallClear (t : Truck) (d : Option CycleEnd) : Statement (.shortfallClear t d) := of_none rfl
theorem dbFaultLatch (t : Truck) (d : Option CycleEnd) : Statement (.dbFaultLatch t d) := of_none rfl
theorem supervisionWindowEnd (t : Truck) (d : Option CycleEnd) : Statement (.supervisionWindowEnd t d) := of_none rfl
theorem channelFaultLatch (t : Truck) (d : Option CycleEnd) : Statement (.channelFaultLatch t d) := of_none rfl
theorem axleSlideConfirm (a : Axle) (d : Option CycleEnd) : Statement (.axleSlideConfirm a d) := of_none rfl
theorem axleRecoveryEnd (a : Axle) (d : Option CycleEnd) : Statement (.axleRecoveryEnd a d) := of_none rfl
theorem axleExclude (a : Axle) (d : Option CycleEnd) : Statement (.axleExclude a d) := of_none rfl
theorem axleReturn (a : Axle) (d : Option CycleEnd) : Statement (.axleReturn a d) := of_none rfl
theorem forcedReapply (t : Truck) (d : Option CycleEnd) : Statement (.forcedReapply t d) := of_none rfl
theorem reapplyHoldEnd (t : Truck) (d : Option CycleEnd) : Statement (.reapplyHoldEnd t d) := of_none rfl
theorem settleEnd (t : Truck) (d : Option CycleEnd) : Statement (.settleEnd t d) := of_none rfl
theorem sampleBlockSeal : Statement (.sampleBlockSeal) := of_none rfl
theorem consistCycleStart : Statement (.consistCycleStart) := of_none rfl
theorem exchangeDecision (taken : List LineRx) : Statement (.exchangeDecision taken) := of_none rfl
theorem unitLost (ident : Nat) (taken : Option (List LineRx)) : Statement (.unitLost ident taken) := of_none rfl
theorem unitJoined (ident : Nat) (taken : Option (List LineRx)) : Statement (.unitJoined ident taken) := of_none rfl
theorem rollDecision (taken : List LineRx) : Statement (.rollDecision taken) := of_none rfl
theorem enrolDecision (taken : List LineRx) : Statement (.enrolDecision taken) := of_none rfl
theorem enrolExclude (taken : Option (List LineRx)) : Statement (.enrolExclude taken) := of_none rfl
theorem releaseTransmit : Statement (.releaseTransmit) := of_none rfl
theorem leadConflict (rx : LineRx) : Statement (.leadConflict rx) := of_none rfl
theorem shareAccept (rx : LineRx) : Statement (.shareAccept rx) := of_none rfl
theorem leadSilent : Statement (.leadSilent) := of_none rfl
theorem rollReceive (rx : LineRx) : Statement (.rollReceive rx) := of_none rfl
theorem enrolReceive (rx : LineRx) : Statement (.enrolReceive rx) := of_none rfl
theorem releaseReceive (rx : LineRx) : Statement (.releaseReceive rx) := of_none rfl
theorem controlFrameAbandoned (chars : List RxChar) : Statement (.controlFrameAbandoned chars) := of_none rfl
theorem requestReceived (chars : List RxChar) : Statement (.requestReceived chars) := of_none rfl
theorem requestUnknownKind (kind tag : Byte) (payload : List Byte) : Statement (.requestUnknownKind kind tag payload) :=
  of_some rfl left
theorem identify (tag : Byte) (payload : List Byte) : Statement (.identify tag payload) := of_some rfl id
theorem status (tag : Byte) (payload : List Byte) : Statement (.status tag payload) := of_some rfl id
theorem configRead (tag : Byte) (payload : List Byte) : Statement (.configRead tag payload) := of_some rfl id
theorem configWrite (tag : Byte) (payload : List Byte) : Statement (.configWrite tag payload) := of_some rfl id
theorem configWriteUnitIdentity (tag : Byte) (payload : List Byte) : Statement (.configWriteUnitIdentity tag payload) :=
  of_some rfl left
theorem configWriteSlotMap (tag : Byte) (payload : List Byte) : Statement (.configWriteSlotMap tag payload) :=
  of_some rfl left
theorem configWriteDbCurve (tag : Byte) (payload : List Byte) : Statement (.configWriteDbCurve tag payload) :=
  of_some rfl left
theorem configWriteTriggerEnable (tag : Byte) (payload : List Byte) : Statement (.configWriteTriggerEnable tag payload) :=
  of_some rfl left
theorem configWriteRecordChannels (tag : Byte) (payload : List Byte) : Statement (.configWriteRecordChannels tag payload) :=
  of_some rfl left
theorem configWriteReportInterval (tag : Byte) (payload : List Byte) : Statement (.configWriteReportInterval tag payload) :=
  of_some rfl left
theorem configCommit (tag : Byte) (payload : List Byte) : Statement (.configCommit tag payload) := of_some rfl id
theorem configAreaWriteDone : Statement (.configAreaWriteDone) := of_none rfl
theorem setRoleOffline (tag : Byte) (payload : List Byte) : Statement (.setRoleOffline tag payload) :=
  of_some rfl (left ∘ left)
theorem setRoleLead (tag : Byte) (payload : List Byte) : Statement (.setRoleLead tag payload) :=
  of_some rfl fun w => by rw [show payload = [1#8] from eq_of_beq w]; rfl
theorem setRoleTrail (tag : Byte) (payload : List Byte) : Statement (.setRoleTrail tag payload) :=
  of_some rfl fun w => by rw [show payload = [2#8] from eq_of_beq w]; rfl
theorem rollCall (tag : Byte) (payload : List Byte) : Statement (.rollCall tag payload) := of_some rfl id
theorem rosterRead (tag : Byte) (payload : List Byte) : Statement (.rosterRead tag payload) := of_some rfl id
theorem rosterRelease (tag : Byte) (payload : List Byte) : Statement (.rosterRelease tag payload) := of_some rfl id
theorem dynamicEnable (tag : Byte) (payload : List Byte) : Statement (.dynamicEnable tag payload) := of_some rfl id
theorem penaltySet (tag : Byte) (payload : List Byte) : Statement (.penaltySet tag payload) := of_some rfl left
theorem penaltyClear (tag : Byte) (payload : List Byte) : Statement (.penaltyClear tag payload) :=
  of_some rfl fun w => by rw [show payload = [] from eq_of_beq w]; rfl
theorem emergencyApply (tag : Byte) (payload : List Byte) : Statement (.emergencyApply tag payload) := of_some rfl id
theorem emergencyReset (tag : Byte) (payload : List Byte) : Statement (.emergencyReset tag payload) := of_some rfl id
theorem faultClearChannel (tag : Byte) (payload : List Byte) : Statement (.faultClearChannel tag payload) :=
  of_some rfl (left ∘ left)
theorem faultClearDb (tag : Byte) (payload : List Byte) : Statement (.faultClearDb tag payload) := of_some rfl left
theorem faultClearBoth (tag : Byte) (payload : List Byte) : Statement (.faultClearBoth tag payload) := of_some rfl left
theorem mark (tag : Byte) (payload : List Byte) : Statement (.mark tag payload) := of_some rfl id
theorem recordList (tag : Byte) (payload : List Byte) : Statement (.recordList tag payload) := of_some rfl id
theorem recordProtect (tag : Byte) (payload : List Byte) : Statement (.recordProtect tag payload) := of_some rfl left
theorem recordUnprotect (tag : Byte) (payload : List Byte) : Statement (.recordUnprotect tag payload) := of_some rfl left
theorem recordErase (tag : Byte) (payload : List Byte) : Statement (.recordErase tag payload) := of_some rfl id
theorem streamOpen (tag : Byte) (payload : List Byte) : Statement (.streamOpen tag payload) := of_some rfl id
theorem streamAck (tag : Byte) (payload : List Byte) : Statement (.streamAck tag payload) := of_some rfl id
theorem streamAbort (tag : Byte) (payload : List Byte) : Statement (.streamAbort tag payload) := of_some rfl id
theorem restart (tag : Byte) (payload : List Byte) : Statement (.restart tag payload) := of_some rfl id
theorem txFrameEnd (r : RestartFacts) : Statement (.txFrameEnd r) := of_none rfl
theorem reportDue : Statement (.reportDue) := of_none rfl
theorem pageWriteDone (verified : Bool) : Statement (.pageWriteDone verified) := of_none rfl
theorem reclaimEraseDone : Statement (.reclaimEraseDone) := of_none rfl
theorem openingEntryWritten : Statement (.openingEntryWritten) := of_none rfl
theorem closingEntryWritten : Statement (.closingEntryWritten) := of_none rfl
theorem protectWriteDone : Statement (.protectWriteDone) := of_none rfl
theorem unprotectWriteDone : Statement (.unprotectWriteDone) := of_none rfl
theorem damagedWriteDone : Statement (.damagedWriteDone) := of_none rfl
theorem hostEraseDone : Statement (.hostEraseDone) := of_none rfl
theorem streamPageReadDone (n : StreamNo) (r : ReadResult) : Statement (.streamPageReadDone n r) := of_none rfl
theorem scrubRequest : Statement (.scrubRequest) := of_none rfl
theorem scrubPageReadDone (r : ReadResult) : Statement (.scrubPageReadDone r) := of_none rfl
theorem powerLoss (c : CutShort) : Statement (.powerLoss c) := of_none rfl
theorem consistFrameSent : Statement (.consistFrameSent) := of_none rfl
theorem outboundFrameSent : Statement (.outboundFrameSent) := of_none rfl

end Sys2Proof.Laws.PayloadFits
end

