-- ==== Sys2Proof/Laws/Receiver.lean ====
section
/-! SUPPORT. The receiver of R177 by what it makes of its characters: its fuel does not show, a frame's clean characters are
taken one by one while the frame is open, and a start byte is followed by what its frame comes to. -/
namespace Sys2Proof.Machine

/-- Any fuel that reaches the last character gives the same reception. -/
theorem receive_fuel (n m : Nat) (cs : List RxChar) (hn : cs.length ≤ n) (hm : cs.length ≤ m) :
    receive n cs = receive m cs := by
  induction n generalizing m cs with
  | zero =>
    have h : cs = [] := List.length_eq_zero_iff.mp (by omega)
    subst h; cases m <;> rfl
  | succ n ih =>
    cases cs with
    | nil => cases m <;> rfl
    | cons c rest =>
      cases m with
      | zero => simp at hm
      | succ m =>
        simp only [List.length_cons] at hn hm
        have step (k : Nat) : receive n (rest.drop k) = receive m (rest.drop k) :=
          ih m (rest.drop k) (by simp; omega) (by simp; omega)
        simp only [receive]
        split
        · split
          · rfl
          · rw [step]
          · rw [step]
        · exact ih m rest (by omega) (by omega)

/-- Clean characters join an open frame while it stays open. -/
theorem walkFrame_clean (got bs : List Byte) (tail : List RxChar)
    (h : got ++ bs = [] ∨ 2 ≤ rd8 (got ++ bs) 0 ∧ rd8 (got ++ bs) 0 ≤ 250 ∧ (got ++ bs).length < rd8 (got ++ bs) 0 + 3) :
    walkFrame got (cleanChars bs ++ tail) = walkFrame (got ++ bs) tail := by
  induction bs generalizing got with
  | nil => simp [cleanChars]
  | cons b bs ih =>
    have e : got ++ b :: bs = (got ++ [b]) ++ bs := by simp
    rw [e] at h ⊢
    have h' := h
    rcases h with h | ⟨h2, h3, h4⟩
    · simp at h
    · have r : rd8 (got ++ [b] ++ bs) 0 = rd8 (got ++ [b]) 0 := by
        cases got <;> rfl
      rw [r] at h2 h3 h4
      simp only [List.length_append] at h4
      rw [← ih (got ++ [b]) h']
      simp only [cleanChars, List.map_cons, List.cons_append, walkFrame]
      have h5 : (got ++ [b]).length ≠ rd8 (got ++ [b]) 0 + 3 := by simp at h4 ⊢; omega
      rw [if_neg h5]
      simp [Nat.not_lt.mpr h2, Nat.not_lt.mpr h3]

/-- A start byte: the frame it opens, and hunting from where that frame ends. -/
theorem hunt_start (rest : List RxChar) :
    hunt (⟨0x5A#8, true, false⟩ :: rest) = match walkFrame [] rest with
      | .openFrame => ⟨⟨0x5A#8, true, false⟩ :: rest, [], 0⟩
      | .abandoned k => abandonedThen (hunt (rest.drop (k - 1)))
      | .complete f n => let r := hunt (rest.drop (n - 1)); { r with frames := f :: r.frames } := by
  have again (k : Nat) : receive rest.length.succ (rest.drop k) = hunt (rest.drop k) :=
    receive_fuel _ _ _ (by simp; omega) (Nat.le_succ _)
  change receive (rest.length.succ + 1) _ = _
  rw [receive, if_pos ⟨rfl, rfl⟩]
  cases walkFrame [] rest with
  | openFrame => rfl
  | abandoned k => simp only [again]; rfl
  | complete f n => simp only [again]

end Sys2Proof.Machine
end

