-- ==== Sys2Proof/Laws/Steps.lean ====
section
/-! SUPPORT. What `settle`, `act` and taking a request do as a whole: one lemma for each, cited in place of unfolding the
store port and transmit arbiters. -/
namespace Sys2Proof.Machine

/-- The fields that the store port and the transmit arbiter never touch. -/
def settled (s : State) :=
  (s.powered, s.rom, s.time, s.begun, s.flm, s.ble, s.tpc, s.am, s.es, s.csl, s.nv.pages, s.nv.area, s.pending)

/-- CLP without what the transmit arbiter and a grant move: frame on the line, reply slot, notice queue, report slot, last
stream sent, commit. -/
def settledLink (s : State) :=
  (s.clp.receiver, s.clp.queue, s.clp.held, s.clp.reportIn, s.clp.badFrames, s.clp.discarded, s.clp.lostNotices,
    s.clp.working, s.clp.image, s.clp.imageValid)

/-- CAP without the open record, whose writer's next block moves at a grant. -/
def settledCap (s : State) := { s.cap with record := none }

variable (s : State)

/-- What is kept by the port and the line. -/
def Settles (s t : State) : Prop :=
  settled t = settled s ∧ settledLink t = settledLink s ∧ settledCap t = settledCap s ∧
    t.clp.notices.length ≤ s.clp.notices.length

theorem Settles.refl : Settles s s := ⟨rfl, rfl, rfl, Nat.le_refl _⟩

theorem Settles.trans {s t u : State} (h : Settles s t) (k : Settles t u) : Settles s u :=
  ⟨k.1.trans h.1, k.2.1.trans h.2.1, k.2.2.1.trans h.2.2.1, Nat.le_trans k.2.2.2 h.2.2.2⟩

theorem grantWriter_settles (op : WriterOp) (r : OpenRecord) : Settles s (grantWriter op r s) := by
  unfold grantWriter
  cases op <;> dsimp only
  · exact ⟨rfl, rfl, rfl, Nat.le_refl _⟩
  · split <;> exact ⟨rfl, rfl, rfl, Nat.le_refl _⟩
  · exact ⟨rfl, rfl, rfl, Nat.le_refl _⟩

theorem grant_settles (c : Client) : Settles s (grant c s) := by
  unfold grant
  cases c <;> dsimp only
  · split
    · rename_i op r _ _
      exact (show Settles s { s with store := { s.store with last := .writer } } from
        ⟨rfl, rfl, rfl, Nat.le_refl _⟩).trans (grantWriter_settles _ op r)
    · exact ⟨rfl, rfl, rfl, Nat.le_refl _⟩
  · split
    · exact ⟨rfl, rfl, rfl, Nat.le_refl _⟩
    · split <;> exact ⟨rfl, rfl, rfl, Nat.le_refl _⟩
  · split
    · exact ⟨rfl, rfl, rfl, Nat.le_refl _⟩
    · exact ⟨rfl, rfl, rfl, Nat.le_refl _⟩
  · exact ⟨rfl, rfl, rfl, Nat.le_refl _⟩
  · exact ⟨rfl, rfl, rfl, Nat.le_refl _⟩
  · split <;> exact ⟨rfl, rfl, rfl, Nat.le_refl _⟩
  · split <;> exact ⟨rfl, rfl, rfl, Nat.le_refl _⟩

theorem portGrant_settles : Settles s (portGrant s) := by
  unfold portGrant
  split
  · exact Settles.refl s
  · split
    · exact Settles.refl s
    · exact grant_settles s _

theorem txChoose_settles : Settles s (txChoose s) := by
  unfold txChoose
  split
  · exact Settles.refl s
  · split
    · exact ⟨rfl, rfl, rfl, Nat.le_refl _⟩
    · split
      · rename_i h
        exact ⟨rfl, rfl, rfl, by rw [h]; exact Nat.le_succ _⟩
      · split
        · exact ⟨rfl, rfl, rfl, Nat.le_refl _⟩
        · dsimp only
          split <;> exact Settles.refl s

/-- What every command leaves to the port and the line. -/
theorem settle_settles : Settles s (settle s) := by
  unfold settle
  split
  · exact (portGrant_settles s).trans (txChoose_settles _)
  · exact Settles.refl s

@[simp] theorem settle_powered : (settle s).powered = s.powered :=
  congrArg (fun x => x.1) (settle_settles s).1
@[simp] theorem settle_rom : (settle s).rom = s.rom :=
  congrArg (fun x => x.2.1) (settle_settles s).1
@[simp] theorem settle_time : (settle s).time = s.time :=
  congrArg (fun x => x.2.2.1) (settle_settles s).1
@[simp] theorem settle_begun : (settle s).begun = s.begun :=
  congrArg (fun x => x.2.2.2.1) (settle_settles s).1
@[simp] theorem settle_flm : (settle s).flm = s.flm :=
  congrArg (fun x => x.2.2.2.2.1) (settle_settles s).1
@[simp] theorem settle_ble : (settle s).ble = s.ble :=
  congrArg (fun x => x.2.2.2.2.2.1) (settle_settles s).1
@[simp] theorem settle_tpc : (settle s).tpc = s.tpc :=
  congrArg (fun x => x.2.2.2.2.2.2.1) (settle_settles s).1
@[simp] theorem settle_am : (settle s).am = s.am :=
  congrArg (fun x => x.2.2.2.2.2.2.2.1) (settle_settles s).1
@[simp] theorem settle_es : (settle s).es = s.es :=
  congrArg (fun x => x.2.2.2.2.2.2.2.2.1) (settle_settles s).1
@[simp] theorem settle_csl : (settle s).csl = s.csl :=
  congrArg (fun x => x.2.2.2.2.2.2.2.2.2.1) (settle_settles s).1
@[simp] theorem settle_nv_pages : (settle s).nv.pages = s.nv.pages :=
  congrArg (fun x => x.2.2.2.2.2.2.2.2.2.2.1) (settle_settles s).1
@[simp] theorem settle_nv_area : (settle s).nv.area = s.nv.area :=
  congrArg (fun x => x.2.2.2.2.2.2.2.2.2.2.2.1) (settle_settles s).1
@[simp] theorem settle_pending : (settle s).pending = s.pending :=
  congrArg (fun x => x.2.2.2.2.2.2.2.2.2.2.2.2) (settle_settles s).1
@[simp] theorem settle_clp_receiver : (settle s).clp.receiver = s.clp.receiver :=
  congrArg (fun x => x.1) (settle_settles s).2.1
@[simp] theorem settle_clp_queue : (settle s).clp.queue = s.clp.queue :=
  congrArg (fun x => x.2.1) (settle_settles s).2.1
@[simp] theorem settle_clp_held : (settle s).clp.held = s.clp.held :=
  congrArg (fun x => x.2.2.1) (settle_settles s).2.1
@[simp] theorem settle_clp_reportIn : (settle s).clp.reportIn = s.clp.reportIn :=
  congrArg (fun x => x.2.2.2.1) (settle_settles s).2.1
@[simp] theorem settle_clp_badFrames : (settle s).clp.badFrames = s.clp.badFrames :=
  congrArg (fun x => x.2.2.2.2.1) (settle_settles s).2.1
@[simp] theorem settle_clp_discarded : (settle s).clp.discarded = s.clp.discarded :=
  congrArg (fun x => x.2.2.2.2.2.1) (settle_settles s).2.1
@[simp] theorem settle_clp_lostNotices : (settle s).clp.lostNotices = s.clp.lostNotices :=
  congrArg (fun x => x.2.2.2.2.2.2.1) (settle_settles s).2.1
@[simp] theorem settle_clp_working : (settle s).clp.working = s.clp.working :=
  congrArg (fun x => x.2.2.2.2.2.2.2.1) (settle_settles s).2.1
@[simp] theorem settle_clp_image : (settle s).clp.image = s.clp.image :=
  congrArg (fun x => x.2.2.2.2.2.2.2.2.1) (settle_settles s).2.1
@[simp] theorem settle_clp_imageValid : (settle s).clp.imageValid = s.clp.imageValid :=
  congrArg (fun x => x.2.2.2.2.2.2.2.2.2) (settle_settles s).2.1
@[simp] theorem settle_cap_fill : (settle s).cap.fill = s.cap.fill := by
  have h := congrArg Cap.fill (settle_settles s).2.2.1
  exact h
@[simp] theorem settle_cap_sealTicks : (settle s).cap.sealTicks = s.cap.sealTicks := by
  have h := congrArg Cap.sealTicks (settle_settles s).2.2.1
  exact h
@[simp] theorem settle_cap_marks : (settle s).cap.marks = s.cap.marks := by
  have h := congrArg Cap.marks (settle_settles s).2.2.1
  exact h
@[simp] theorem settle_cap_ring : (settle s).cap.ring = s.cap.ring := by
  have h := congrArg Cap.ring (settle_settles s).2.2.1
  exact h
@[simp] theorem settle_cap_state : (settle s).cap.state = s.cap.state := by
  have h := congrArg Cap.state (settle_settles s).2.2.1
  exact h
@[simp] theorem settle_cap_waiting : (settle s).cap.waiting = s.cap.waiting := by
  have h := congrArg Cap.waiting (settle_settles s).2.2.1
  exact h
@[simp] theorem settle_cap_dropped : (settle s).cap.dropped = s.cap.dropped := by
  have h := congrArg Cap.dropped (settle_settles s).2.2.1
  exact h
@[simp] theorem settle_cap_storeFull : (settle s).cap.storeFull = s.cap.storeFull := by
  have h := congrArg Cap.storeFull (settle_settles s).2.2.1
  exact h

/-- A command on a powered part. -/
theorem act_powered (f : State → State) (h : s.powered = true) : act f s = .next (settle (f s)) := by
  simp [act, h]

/-- A command on a part without power. -/
theorem act_unpowered (f : State → State) (h : s.powered = false) : act f s = .next s := by
  simp [act, h]

/-- A request that cannot be taken, or of another row, leaves the state. -/
theorem takeRequest_no (row : ReqRow) (f : ReqFrame) (serve : List Byte → State → Served)
    (h : ¬(rowOf f = row ∧ s.takeable f = true)) : takeRequest row f serve s = s := if_neg h

/-- A request taken. -/
theorem takeRequest_yes (row : ReqRow) (f : ReqFrame) (serve : List Byte → State → Served) (hr : rowOf f = row)
    (ht : s.takeable f = true) : takeRequest row f serve s = serveRequest f serve (arrive f s) := if_pos ⟨hr, ht⟩

/-- A request that fails one of the first three tests of R178. -/
theorem serveRequest_refused (f : ReqFrame) (serve : List Byte → State → Served) (r : ReplyStatus × List Byte)
    (h : precheck f = some r) : serveRequest f serve s = answer f r.1 r.2 s := by
  simp [serveRequest, h]

/-- A request that passes the first three tests and is answered at once. -/
theorem serveRequest_reply (f : ReqFrame) (serve : List Byte → State → Served) (st : ReplyStatus) (p : List Byte)
    (t : State) (h : precheck f = none) (hs : serve f.payload s = .reply st p t) :
    serveRequest f serve s = answer f st p t := by
  simp [serveRequest, h, hs]

/-- A request that passes the first three tests and is held. -/
theorem serveRequest_hold (f : ReqFrame) (serve : List Byte → State → Served) (t : State) (h : precheck f = none)
    (hs : serve f.payload s = .hold t) :
    serveRequest f serve s = { t with clp := { t.clp with held := true } } := by
  simp [serveRequest, h, hs]

/-- A request in the queue holds no more than it did, or one. -/
theorem arrive_eq (f : ReqFrame) :
    arrive f s = s ∨ (s.clp.queue = [] ∧ arrive f s = { s with clp := { s.clp with queue := [f] } }) := by
  unfold arrive
  split
  · exact Or.inr ⟨‹_›, rfl⟩
  · exact Or.inl rfl

end Sys2Proof.Machine
end

