-- ==== Sys2Proof/Laws/Store.lean ====
section
/-! SUPPORT. What the record store's shared operations do when a slot goes ERASING: a stream's decided completion, and the
scrub check abandoned. -/
namespace Sys2Proof.Machine

/-- A RUNNING stream with no completion decided takes it, at once or at the end of its frame; directory, check, record
number, line and the other stream are as before (R173, R174). -/
theorem decideStream_spec (n : StreamNo) (c : Completion) (s : State) :
    let t := decideStream n c s
    t.store.dir = s.store.dir ∧ t.store.check = s.store.check ∧ t.store.dirQueue = s.store.dirQueue ∧
      t.store.nextNumber = s.store.nextNumber ∧ t.clp.tx = s.clp.tx ∧ (∀ m, m ≠ n → t.rdu.get m = s.rdu.get m) ∧
      ((s.rdu.get n).state = .running → (s.rdu.get n).status = none →
        (t.rdu.get n).status = some c ∧ (t.rdu.get n).ask = false ∧ (t.rdu.get n).buffer = none ∧
          (t.rdu.get n).state = if s.streamOnLine n then .running else .complete) := by
  unfold decideStream
  dsimp only
  split
  · split
    · rename_i h1 h2
      have h2' : s.streamOnLine n = true := h2
      refine ⟨rfl, rfl, rfl, rfl, rfl, ?_, ?_⟩
      · intro m hm; cases m <;> cases n <;> simp_all [State.setStream, PerStream.set, PerStream.get]
      · intro hr _; rw [if_pos h2']; cases n <;> simp_all [State.setStream, PerStream.set, PerStream.get]
    · rename_i h1 h2
      have h2' : s.streamOnLine n = false := Bool.eq_false_iff.2 h2
      refine ⟨by simp [completeStream, State.setStream], by simp [completeStream, State.setStream],
        by simp [completeStream, State.setStream], by simp [completeStream, State.setStream], ?_, ?_, ?_⟩
      · unfold completeStream raise; dsimp only; split <;> rfl
      · intro m hm; cases m <;> cases n <;> simp_all [completeStream, State.setStream, PerStream.set, PerStream.get]
      · intro hr _; rw [h2']; cases n <;> simp_all [completeStream, State.setStream, PerStream.set, PerStream.get]
  · rename_i h
    exact ⟨rfl, rfl, rfl, rfl, rfl, fun _ _ => rfl, fun a b => absurd ⟨a, b⟩ h⟩

/-- A start of a check leaves the check there was or takes one of a CLOSED slot (R163). -/
theorem scrubStart_spec (fuel : Nat) : ∀ s : State,
    (∀ k, (scrubStart fuel s).store.check = some k → s.store.check = some k ∨ (s.entry k.slot).state = .closed) ∧
      (scrubStart fuel s).store.dir = s.store.dir ∧ (scrubStart fuel s).rdu = s.rdu ∧
      (scrubStart fuel s).store.dirQueue = s.store.dirQueue ∧
      (scrubStart fuel s).store.nextNumber = s.store.nextNumber := by
  induction fuel with
  | zero => exact fun s => ⟨fun _ h => Or.inl h, rfl, rfl, rfl, rfl⟩
  | succ n ih =>
    intro s
    unfold scrubStart
    split
    · exact ⟨fun _ h => Or.inl h, rfl, rfl, rfl, rfl⟩
    · rename_i slot hs
      have hc : (s.entry slot).state = .closed := by
        unfold State.scrubSlot at hs
        simpa using List.find?_some hs
      split
      · dsimp only
        split
        · exact ih { s with store := { s.store with scrubIndex := (slot + 1) % 48, scrubLatch := false } }
        · exact ⟨fun _ h => Or.inl h, rfl, rfl, rfl, rfl⟩
      · refine ⟨?_, rfl, rfl, rfl, rfl⟩
        intro k hk
        have hk' := Option.some.inj hk
        rw [← hk']
        exact Or.inr hc

/-- The check of a slot that is no longer CLOSED is abandoned, another slot's goes on (R164). -/
theorem scrubAbandon_spec (slot : Nat) (s : State) (hst : (s.entry slot).state ≠ .closed) :
    (∀ k, (scrubAbandon slot s).store.check = some k → k.slot ≠ slot) ∧
      (∀ k, s.store.check = some k → k.slot ≠ slot → (scrubAbandon slot s).store.check = some k) ∧
      (scrubAbandon slot s).store.dir = s.store.dir ∧ (scrubAbandon slot s).rdu = s.rdu ∧
      (scrubAbandon slot s).store.dirQueue = s.store.dirQueue ∧
      (scrubAbandon slot s).store.nextNumber = s.store.nextNumber := by
  unfold scrubAbandon
  split
  · rename_i h
    exact ⟨fun k hk => by rw [h] at hk; simp at hk, fun _ hk _ => hk, rfl, rfl, rfl, rfl⟩
  · rename_i k h
    have gone : k.slot = slot → ∀ j, s.store.check = some j → j.slot ≠ slot → False := by
      intro hk j hj hne
      rw [h] at hj
      exact hne ((congrArg ScrubCheck.slot (Option.some.inj hj)) ▸ hk)
    split
    · rename_i hk
      unfold scrubEnd
      dsimp only
      split
      · have w := scrubStart_spec 2
          { s with store := { s.store with port := s.store.port.map dropScrubRead, check := none, scrubLatch := false } }
        refine ⟨?_, fun j hj hne => (gone hk j hj hne).elim, w.2.1, w.2.2.1, w.2.2.2.1, w.2.2.2.2⟩
        intro j hj
        rcases w.1 j hj with e | e
        · simp at e
        · intro same; rw [same] at e; exact hst e
      · exact ⟨fun j hj => by simp at hj, fun j hj hne => (gone hk j hj hne).elim, rfl, rfl, rfl, rfl⟩
    · rename_i hk
      refine ⟨?_, fun j hj _ => hj, rfl, rfl, rfl, rfl⟩
      intro j hj same
      rw [h] at hj
      exact hk ((congrArg ScrubCheck.slot (Option.some.inj hj)).trans same)

/-- The block a record's window holds is the block between its first and its last. -/
theorem covers_iff (r : OpenRecord) (b : Word32) :
    r.covers b = true ↔ (b - (r.trigBlock - BitVec.ofNat 32 r.pre)).toNat < r.pre + r.post := by
  simp [OpenRecord.covers, OpenRecord.offset, OpenRecord.firstBlock, OpenRecord.span]

end Sys2Proof.Machine
end

