-- ==== Sys2Proof/Tests/Slice0.lean ====
section
/-! SUPPORT. Small checks: the refusals of the well-formedness check, fixed values of the codes and the CRC, single
steps, and for each statement with hypotheses a state and operands that meet them, clause by clause, at the values
where clauses meet. -/
set_option linter.unusedVariables false
set_option maxRecDepth 4000
namespace Sys2Proof.Tests
open Sys2Proof Sys2Proof.Machine

/-! ## States -/

/-- The part in its first field cycle. -/
def on : State := { State.reset with begun := true }

def flmOf (f : Flm → Flm) (s : State) : State := { s with flm := f s.flm }
def bleOf (f : Ble → Ble) (s : State) : State := { s with ble := f s.ble }
def amOf (f : Am → Am) (s : State) : State := { s with am := f s.am }
def esOf (f : Es → Es) (s : State) : State := { s with es := f s.es }
def cslOf (f : Csl → Csl) (s : State) : State := { s with csl := f s.csl }
def capOf (f : Cap → Cap) (s : State) : State := { s with cap := f s.cap }
def storeOf (f : Store → Store) (s : State) : State := { s with store := f s.store }
def clpOf (f : Clp → Clp) (s : State) : State := { s with clp := f s.clp }
def tpc1 (f : Tpc → Tpc) (s : State) : State := { s with tpc := ⟨f s.tpc.t1, s.tpc.t2⟩ }
def blend1 (f : TruckBlend → TruckBlend) (s : State) : State := bleOf (fun b => { b with trucks := ⟨f b.trucks.t1, b.trucks.t2⟩ }) s
def slide1 (f : TruckSlide → TruckSlide) (s : State) : State := amOf (fun a => { a with trucks := ⟨f a.trucks.t1, a.trucks.t2⟩ }) s
def axle1 (f : AxleRec → AxleRec) (s : State) : State := amOf (fun a => { a with axles := a.axles.set .a1 (f a.axles.a1) }) s
def port (p : PortOp) (s : State) : State := storeOf (fun x => { x with port := some p }) s
def entryOf (st : EntryState) (miss good : Nat) : Entry := ⟨5, st, miss, good, 1, some ⟨10, 0, 0, 0, ⟨⟨false, false⟩, false, ⟨false, false⟩, false, false⟩, 0#8, 0⟩⟩
def shares : ShareSet := ⟨[(5, 10)], 0, 0, false, false, false, true⟩
/-- Channel `n` of the image. -/
def chanIs (n : Nat) (c : Channel) (s : State) : State := flmOf (fun f => { f with image := f.image.set n c }) s
def valid (v : Nat) : Channel := ⟨v, .valid, 0⟩
def linked (s : State) : State := flmOf (fun f => { f with link := .up, controlActive := true }) s
def moving (s : State) : State := amOf (fun a => { a with known := true, vref := 5000 }) s
def still (s : State) : State := amOf (fun a => { a with known := true, vref := 4999 }) s
/-- A record of 5 blocks. -/
def record (prot dam : Bool) : RecordInfo := ⟨7, .hostMark, 0, 1, 5, some .complete, prot, dam, 0#24, [], 0⟩
def entry0 (e : DirEntry) (s : State) : State := storeOf (fun x => { x with dir := x.dir.set 0 e }) s
def closed (prot : Bool) : State := entry0 ⟨.closed, some (record prot false)⟩ on
def openRec : OpenRecord := ⟨7, 0, .hostMark, 10, 0, 1, 5, 0#24, 6, none⟩
def capturing (fill : Word32) : State :=
  capOf (fun c => { c with state := .capturing, record := some openRec, fill := fill }) (entry0 ⟨.capturing, some (record false false)⟩ on)
/-- A character-perfect line frame. -/
def rxOf (f : ConsistFrame) : LineRx := ⟨true, true, true, true, f.bytes⟩
def rawBlock : RawBlock := ⟨0, 0, [255#8]⟩
def anyEnd : CycleEnd := ⟨.nothing, ⟨0, 0, 0⟩, true⟩
def nothingBad : ScanFaults := ⟨[], [], false⟩

/-! ## The well-formedness check refuses -/

def shortFrame : CycleEnd := ⟨.frame 0 (List.replicate 31 0) 0, ⟨0, 0, 0⟩, true⟩
def longPayload : List Byte := List.replicate 249 0

theorem test_wf_power : Instr.wf (.powerOn ⟨[48], [], false⟩) = false ∧ Instr.wf (.powerOn ⟨[], [(0, 320)], false⟩) = false ∧
    Instr.wf (.powerOn ⟨[], [(48, 0)], false⟩) = false ∧ Instr.wf (.txFrameEnd ⟨true, ⟨[48], [], false⟩⟩) = false := by decide

theorem test_wf_decisions : Instr.wf (.fieldCycleDecision shortFrame) = false ∧ Instr.wf (.fieldLinkUp shortFrame) = false ∧
    Instr.wf (.fieldLinkLost shortFrame) = false ∧ Instr.wf (.shortfallEntry .t1 (some shortFrame)) = false ∧
    Instr.wf (.shortfallClear .t1 (some shortFrame)) = false ∧ Instr.wf (.dbFaultLatch .t1 (some shortFrame)) = false ∧
    Instr.wf (.supervisionWindowEnd .t1 (some shortFrame)) = false ∧
    Instr.wf (.channelFaultLatch .t1 (some shortFrame)) = false ∧ Instr.wf (.axleSlideConfirm .a1 (some shortFrame)) = false ∧
    Instr.wf (.axleRecoveryEnd .a1 (some shortFrame)) = false ∧ Instr.wf (.axleExclude .a1 (some shortFrame)) = false ∧
    Instr.wf (.axleReturn .a1 (some shortFrame)) = false ∧ Instr.wf (.forcedReapply .t1 (some shortFrame)) = false ∧
    Instr.wf (.reapplyHoldEnd .t1 (some shortFrame)) = false ∧ Instr.wf (.settleEnd .t1 (some shortFrame)) = false := by decide

theorem test_wf_identities : Instr.wf (.unitLost 0 none) = false ∧ Instr.wf (.unitJoined 4294967295 none) = false ∧
    Instr.wf (.unitLost 1 none) = true ∧ Instr.wf (.unitJoined 4294967294 none) = true := by decide

theorem test_wf_characters : Instr.wf (.controlFrameAbandoned []) = false ∧ Instr.wf (.requestReceived []) = false := by decide

theorem test_wf_reads : Instr.wf (.streamPageReadDone .s0 (.bad (List.replicate 5 rawBlock))) = false ∧
    Instr.wf (.scrubPageReadDone (.bad (List.replicate 5 rawBlock))) = false := by decide

theorem test_wf_rows : Instr.wf (.requestUnknownKind 1#8 0#8 []) = false ∧ Instr.wf (.configWriteUnitIdentity 0#8 [2#8]) = false ∧
    Instr.wf (.configWriteSlotMap 0#8 [1#8]) = false ∧ Instr.wf (.configWriteDbCurve 0#8 [1#8]) = false ∧
    Instr.wf (.configWriteTriggerEnable 0#8 [1#8]) = false ∧ Instr.wf (.configWriteRecordChannels 0#8 [1#8]) = false ∧
    Instr.wf (.configWriteReportInterval 0#8 [1#8]) = false ∧ Instr.wf (.setRoleOffline 0#8 [1#8]) = false ∧
    Instr.wf (.setRoleLead 0#8 [2#8]) = false ∧ Instr.wf (.setRoleTrail 0#8 [1#8]) = false ∧
    Instr.wf (.penaltySet 0#8 []) = false ∧ Instr.wf (.penaltyClear 0#8 [1#8]) = false ∧
    Instr.wf (.faultClearChannel 0#8 [1#8, 1#8]) = false ∧ Instr.wf (.faultClearDb 0#8 [1#8, 0#8]) = false ∧
    Instr.wf (.faultClearBoth 0#8 [1#8, 1#8]) = false ∧ Instr.wf (.recordProtect 0#8 [0#8, 0#8, 0#8, 1#8, 1#8]) = false ∧
    Instr.wf (.recordUnprotect 0#8 [0#8, 0#8, 0#8, 1#8, 0#8]) = false := by decide

theorem test_wf_lengths : [Instr.requestUnknownKind 0#8 0#8 longPayload, .identify 0#8 longPayload, .status 0#8 longPayload,
    .configRead 0#8 longPayload, .configWrite 0#8 longPayload, .configCommit 0#8 longPayload,
    .setRoleOffline 0#8 longPayload, .rollCall 0#8 longPayload, .rosterRead 0#8 longPayload, .rosterRelease 0#8 longPayload,
    .dynamicEnable 0#8 longPayload, .penaltySet 0#8 longPayload, .emergencyApply 0#8 longPayload,
    .emergencyReset 0#8 longPayload, .faultClearChannel 0#8 longPayload, .mark 0#8 longPayload,
    .recordList 0#8 longPayload, .recordProtect 0#8 longPayload, .recordErase 0#8 longPayload, .streamOpen 0#8 longPayload,
    .streamAck 0#8 longPayload, .streamAbort 0#8 longPayload, .restart 0#8 longPayload].all (fun c => !Instr.wf c) = true := by
  decide +kernel

/-! ## Fixed values -/

/-- The table gives no row bits. -/
theorem test_decode_none : decodeTableWord 32 5 = none := rfl

/-- The check value of the CRC of R194: "123456789" gives 0x29B1. -/
theorem test_crc : crc16 [0x31#8, 0x32#8, 0x33#8, 0x34#8, 0x35#8, 0x36#8, 0x37#8, 0x38#8, 0x39#8] = 0x29B1#16 := by decide +kernel

theorem test_defaults_in_range : Settings.firstBad Config.defaults = none := by decide +kernel

/-- A STATUS content has 82 bytes. -/
theorem test_status_length : (on.statusContent 0).length = 82 := by decide +kernel

/-- A consist frame that is sent is received clean. -/
theorem test_consist_frame : cleanFrame (rxOf ⟨5, 9, .roll 1 4294967294⟩) = some ⟨5, 9, .roll 1 4294967294⟩ := by decide +kernel

/-- Every order of the four blocks is one of the operand's values. -/
theorem test_orders : blockList ⟨0, 0, 0⟩ = [.es, .am, .tpc, .ble] ∧ blockList ⟨1, 2, 3⟩ = [.ble, .tpc, .am, .es] := by decide

theorem test_curve : curveFrac Config.defaults.dbCurve 450 = (200 * 150 + 800 * 150, 300) ∧
    curveFrac Config.defaults.dbCurve 15000 = (900, 1) := by decide +kernel

/-! ## Single steps -/

/-- The first field cycle starts with counter 0 and the time base at 0; the second one moves both. -/
theorem test_two_cycles :
    let s := fieldCycleStart State.reset;
    s.begun = true ∧ s.flm.counter = 0 ∧ s.time = 0 ∧ (fieldCycleStart s).flm.counter = 1 ∧ (fieldCycleStart s).time = 5 := by
  decide +kernel

/-- A good frame decides the cycle and shows its values. -/
theorem test_good_cycle :
    let s := outboundFrameSent (fieldCycleStart State.reset);
    let slots : List Word16 := 3#16 :: 12000#16 :: 15001#16 :: List.replicate 29 0#16;
    let t := flmDecision (.frame 0 slots (crc16 (fieldBytes 0 slots))) s;
    t.flm.goodRun = 1 ∧ t.chan 0 = ⟨12000, .valid, 0⟩ ∧ t.chan 1 = ⟨0, .invalid, 0⟩ ∧ t.flm.statusWord = 3#16 := by
  decide +kernel

/-- A request taken on an empty queue is answered on the idle line. -/
theorem test_identify : (settle (takeRequest .identify ⟨0x01#8, 9#8, []⟩ serveIdentify on)).clp.tx =
    some (.reply ⟨0x81#8, 9#8, .ok, [0x6B#8, 0x36#8, 0#8, 0#8, 0#8, 0#8, 1#8, 0#8, 0#8, 0#8, 1#8]⟩) := by decide +kernel

/-- A host mark in IDLE opens record 1 on slot 0 and asks for its opening entry. -/
theorem test_host_mark :
    let s := settle (trigger .hostMark false on);
    s.cap.state = .allocating ∧ (s.cap.record.map (fun r => (r.number, r.slot))) = some (1, 0) ∧
      (match s.store.port with | some (.opening 0 _) => true | _ => false) = true := by decide +kernel

/-- Loss of power in a page write leaves the page bad, and the next scan finds it so. -/
theorem test_torn_page :
    let s := powerLoss .torn (port (.page 0 0 []) on);
    s.powered = false ∧ pagesRead s.nv.pages 0 = some ⟨[], false⟩ ∧ (powerOn nothingBad s).powered = true := by decide +kernel

/-! ## Witnesses: the machine as a whole -/

def committing (todo : List Nat) : State := clpOf (fun c => { c with commit := some ⟨c.working, todo, 1, false⟩ }) on
def blockOf (n : Word32) : SampleBlock := { on.sealedBlock with seq := n }
def notices (n : Nat) : State := clpOf (fun c => { c with notices := List.replicate n ⟨0, .penaltyOn 1⟩ }) on
def aFrame : StreamFrame := ⟨.s0, 7, 0, false, []⟩
def running : Stream := { Stream.boot with state := .running, record := 7, first := 0, last := 4, next := -1, trigIndex := 1 }
def stream (k : Stream) (s : State) : State := { s with rdu := ⟨k, Stream.boot⟩ }
def full (prot : Bool) : State := storeOf (fun x => { x with dir := List.replicate 48 ⟨.closed, some (record prot false)⟩ }) on

theorem witness_StepRunsFrontCommand :
    ({ on with pending := [Instr.fieldCycleStart, Instr.sampleBlockSeal] } : State).pending = .fieldCycleStart :: [.sampleBlockSeal] := rfl

theorem witness_StepOtherwiseKeepsState : State.reset.pending = [] ∧ ({ on with powered := false } : State).powered = false ∧
    ∀ f, Instr.fieldCycleStart ≠ .powerOn f := ⟨rfl, rfl, fun _ => by simp⟩

theorem witness_NoticesAndArbiters :
    (notices 15).clp.notices.length < 16 ∧ 16 ≤ (notices 16).clp.notices.length ∧
    (let s := clpOf (fun c => { c with replySlot := some ⟨0x81#8, 0#8, .ok, []⟩ }) on;
      s.clp.tx = none ∧ s.clp.replySlot = some ⟨0x81#8, 0#8, .ok, []⟩) ∧
    (let s := notices 1;
      s.clp.tx = none ∧ s.clp.replySlot = none ∧ s.clp.notices = [⟨0, .penaltyOn 1⟩]) ∧
    (let s := clpOf (fun c => { c with reportSlot := some [] }) on;
      s.clp.tx = none ∧ s.clp.replySlot = none ∧ s.clp.notices = [] ∧ s.clp.reportSlot = some []) ∧
    (let s : State := { on with rdu := ⟨{ Stream.boot with buffer := some aFrame }, Stream.boot⟩ };
      s.clp.tx = none ∧ s.clp.replySlot = none ∧ s.clp.notices = [] ∧ s.clp.reportSlot = none ∧
        (s.rdu.get (StreamNo.other s.clp.lastStream)).buffer = some aFrame) ∧
    (let s : State := { on with rdu := ⟨Stream.boot, { Stream.boot with buffer := some aFrame }⟩ };
      s.clp.tx = none ∧ (s.rdu.get (StreamNo.other s.clp.lastStream)).buffer = none ∧
        (s.rdu.get s.clp.lastStream).buffer = some aFrame) ∧
    (let s := clpOf (fun c => { c with tx := some (.stream aFrame) }) on;
      s.clp.tx = some (.stream aFrame) ∧ on.clp.tx = none ∧ on.clp.replySlot = none ∧ on.clp.notices = [] ∧
        on.clp.reportSlot = none ∧ (on.rdu.get (StreamNo.other on.clp.lastStream)).buffer = none ∧
        (on.rdu.get on.clp.lastStream).buffer = none) ∧
    (let s := clpOf (fun c => { c with working := { c.working with storeMode := .burst } }) (storeOf (fun x => { x with writer := some .page }) on);
      s.clp.working.storeMode = .burst ∧ s.store.writer = some .page) ∧
    (let s := storeOf (fun x => { x with dirQueue := [⟨0, .damaged⟩] }) on;
      s.clp.working.storeMode = .interleaved ∧
        s.store.last.after = [Client.writer] ++ .directory :: [.config, .s0, .s1, .scrubber, .hostErase] ∧
        (∀ b ∈ [Client.writer], s.waits b = false) ∧ s.waits .directory = true) ∧
    ((port .configCheck on).store.port = some .configCheck ∧ on.store.port = none ∧ on.chosenClient = none ∧
      (storeOf (fun x => { x with dirQueue := [⟨0, .damaged⟩] }) on).chosenClient = some .directory) ∧
    (∀ op ∈ [WriterOp.erase, .opening, .page], let s := storeOf (fun x => { x with writer := some op }) (capturing 14);
      s.cap.record = some openRec ∧ s.store.writer = some op ∧ (s.entry openRec.slot).record = some (record false false)) ∧
    (let s := storeOf (fun x => { x with dirQueue := [⟨0, .unprotect⟩] }) (closed true);
      s.store.dirQueue = ⟨0, .unprotect⟩ :: [] ∧ (s.entry 0).record = some (record true false)) ∧
    (∀ todo ∈ [[], [17]], (committing todo).clp.commit = some ⟨(committing todo).clp.working, todo, 1, false⟩) ∧
    (storeOf (fun x => { x with check := some ⟨0, 0, true⟩ }) on).store.check = some ⟨0, 0, true⟩ ∧
    (storeOf (fun x => { x with hostErase := some ⟨0, 7, true⟩ }) on).store.hostErase = some ⟨0, 7, true⟩ := by decide +kernel

/-- A page write takes the record's next blocks of the ring, also across the wrap of the block numbers. -/
theorem test_page_across_wrap :
    let r : OpenRecord := { openRec with trigBlock := 1, pre := 3, post := 5, copied := 0 };
    let ring := [4294967293, 4294967294, 4294967295, 0, 1, 2].map (fun n => blockOf n);
    let s := capOf (fun c => { c with record := some r, ring := ring, fill := 3 }) (capturing 3);
    r.pageReady 3 = true ∧ r.covers 5 = true ∧ r.covers 6 = false ∧ r.covers 4294967293 = false ∧
      (match (grantWriter .page r s).store.port with
        | some (.page 0 0 bs) => bs.map (fun b => b.seq)
        | _ => []) = [4294967294, 4294967295, 0, 1] := by decide +kernel

theorem witness_TriggerOpensCapture :
    (on.cap.state = .idle ∧ on.clp.working.admits .hostMark = true ∧ on.freeSlot = some 0 ∧ on.store.nextNumber ≤ 4294967295) ∧
    ((full true).cap.state = .idle ∧ (full true).clp.working.admits .hostMark = true ∧ (full true).freeSlot = none ∧
      (full true).reclaimSlot = none) ∧
    ((full false).cap.state = .idle ∧ (full false).freeSlot = none ∧ (full false).reclaimSlot = some (0, 7) ∧
      0 < (full false).store.dir.length) ∧
    (let d := (stream running (full false)).rdu.get .s0;
      d.record = 7 ∧ d.state = .running ∧ d.status = none ∧ (on.rdu.get .s1).record ≠ 7) ∧
    (∀ k ∈ [0, 1], (storeOf (fun x => { x with check := some ⟨k, 0, true⟩ }) (full false)).store.check = some ⟨k, 0, true⟩) ∧
    4294967295 < (storeOf (fun x => { x with nextNumber := 4294967296 }) on).store.nextNumber := by decide +kernel

/-- A reclaim ends a stream of the record RECORD_GONE, abandons the slot's check and withdraws its directory writes. -/
theorem test_reclaim :
    let s := storeOf (fun x => { x with check := some ⟨0, 0, true⟩, dirQueue := [⟨0, .damaged⟩, ⟨1, .damaged⟩] })
      (stream running (full false));
    let t := trigger .penalty false s;
    (t.rdu.get .s0).status = some .recordGone ∧ (t.rdu.get .s0).state = .complete ∧ t.store.check = none ∧
      t.store.dirQueue = [⟨1, .damaged⟩] ∧ (t.entry 0).state = .erasing ∧ t.store.writer = some .erase := by decide +kernel

def waiting (n : Nat) : State := capOf (fun c => { c with
  state := .closing, record := some openRec, waiting := List.replicate n ⟨.hostMark, 0, 0, 0, 50, 0#24⟩ }) on

theorem witness_TriggerWaitsOrJoins :
    (clpOf (fun c => { c with working := { c.working with triggerEnable := 1#8 } }) on).clp.working.admits .hostMark = false ∧
    (∀ n ∈ [3, 4], (waiting n).clp.working.admits .hostMark = true ∧ (waiting n).cap.state = .closing) ∧
    (waiting 3).cap.waiting.length < 4 ∧ 4 ≤ (waiting 4).cap.waiting.length ∧
    (let s := capturing 14;
      s.clp.working.admits .hostMark = true ∧ s.cap.state = .capturing ∧ s.cap.record = some openRec ∧
        (s.cap.fill - (openRec.trigBlock - BitVec.ofNat 32 openRec.pre)).toNat < openRec.pre + openRec.post ∧
        openRec.slot < s.store.dir.length ∧ (s.entry openRec.slot).record = some (record false false)) ∧
    (let s := capturing 15;
      s.cap.state = .capturing ∧ s.cap.record = some openRec ∧ s.cap.waiting.length < 4 ∧
        openRec.pre + openRec.post ≤ (s.cap.fill - (openRec.trigBlock - BitVec.ofNat 32 openRec.pre)).toNat) ∧
    on.cap.state = .idle := by decide +kernel

theorem witness_ValvesNeverBothDriven :
    State.valvesExclusive { on with pending := [.fieldCycleStart] } ∧
      step { on with pending := [.fieldCycleStart] } = .next (settle (fieldCycleStart on)) :=
  ⟨⟨by simp [Tpc.oneDriver, on, State.reset, State.boot, Tpc.boot], by simp [Tpc.oneDriver, on, State.reset, State.boot, Tpc.boot]⟩, rfl⟩

theorem witness_PagesStayCanonical :
    State.pagesCanonical (port (.page 0 0 []) { on with pending := [.pageWriteDone true] }) ∧
      step (port (.page 0 0 []) { on with pending := [.pageWriteDone true] }) =
        .next (settle (pageWriteDone true (port (.page 0 0 []) on))) := ⟨rfl, rfl⟩

theorem witness_ListsStayBounded :
    State.listsBounded { notices 16 with pending := [.fieldCycleStart] } ∧
      step { notices 16 with pending := [.fieldCycleStart] } = .next (settle (fieldCycleStart (notices 16))) := by
  refine ⟨?_, rfl⟩
  unfold State.listsBounded
  decide +kernel

/-! ## Witnesses: power -/

theorem witness_PowerOnResetsPart :
    loadFault nothingBad (powerOn nothingBad on).nv.area = none ∧
    loadFault ⟨[], [], true⟩ (powerOn ⟨[], [], true⟩ on).nv.area = some .badCheck := by decide +kernel

theorem witness_ScanTreatsEntries :
    let nv : NonVolatile := { NonVolatile.first with
      stored := [.free, .erasing, .badCheck, .closed (record false false), .capturing (record false false)] };
    nv.stored[0]? = some .free ∧ nv.stored[1]? = some .erasing ∧ nv.stored[2]? = some .badCheck ∧
      nv.stored[3]? = some (.closed (record false false)) ∧ nv.stored[4]? = some (.capturing (record false false)) ∧
      0 < 320 ∧ 319 < 320 ∧ 3 ∉ nothingBad.badEntries ∧ 4 ∉ nothingBad.badEntries ∧ 3 ∈ (⟨[3], [], false⟩ : ScanFaults).badEntries := by decide +kernel

/-- The blocks of an interrupted record: those of the pages before the first that reads bad, is empty or has a bad check (R166). -/
theorem test_scan_counts :
    let bs : List SampleBlock := List.replicate 4 ⟨0, 0, [], on.summary, on.alsoRecorded, 0#8⟩;
    let blocks (pages : List Page) (bad : List (Nat × Nat)) : Nat := countPages bad (pages.zipIdx.map (fun p => (320 + p.2, p.1))) 1 320 0;
    blocks [⟨bs, true⟩, ⟨bs.take 1, true⟩] [] = 5 ∧ blocks [⟨bs, true⟩, ⟨bs, false⟩, ⟨bs, true⟩] [] = 4 ∧
      blocks [⟨bs, true⟩, ⟨[], true⟩, ⟨bs, true⟩] [] = 4 ∧ blocks [⟨bs, true⟩, ⟨bs, true⟩] [(1, 0)] = 0 ∧ blocks [] [] = 0 := by
  decide +kernel

/-- The scan erases the pages of an ERASING slot and keeps those of the others. -/
theorem test_scan_pages :
    let nv : NonVolatile := { NonVolatile.first with stored := [.erasing, .closed (record false false)], pages := [(319, ⟨[], true⟩), (320, ⟨[], true⟩)] };
    (scanStore nothingBad nv).pages = [(320, ⟨[], true⟩)] := by decide +kernel

theorem witness_PowerLossStopsPart :
    on.powered = true ∧ on.store.port = none ∧ (port (.page 0 0 []) on).store.port = some (.page 0 0 []) ∧
    (port (.dir ⟨0, .damaged⟩ (record false true)) on).store.port = some (.dir ⟨0, .damaged⟩ (record false true)) ∧
    (port .configCheck on).store.port = some .configCheck ∧ (port (.configItem 17) on).store.port = some (.configItem 17) ∧
    (port (.opening 0 (record false false)) on).store.port = some (.opening 0 (record false false)) ∧
    (port (.reclaimErase 0) on).store.port = some (.reclaimErase 0) ∧ (port (.hostErase 0) on).store.port = some (.hostErase 0) ∧
    (port (.streamRead .s0 0 0 true) on).store.port = some (.streamRead .s0 0 0 true) ∧
    (port (.scrubRead 0 0 true) on).store.port = some (.scrubRead 0 0 true) := by decide +kernel

/-! ## Witnesses: the field cycle -/

def lead : State := cslOf (fun c => { c with role := .lead, roster := [entryOf .active 0 0], cycleTicks := 8 }) (bleOf (fun b => { b with offered := some shares }) on)
def phase (p : CyclePhase) : State := flmOf (fun f => { f with phase := p }) on

theorem witness_OutboundPhase :
    on.powered = true ∧ on.begun = true ∧ State.reset.begun = false ∧ lead.csl.role = .lead ∧ (phase .sending).flm.phase = .sending ∧ (phase .window).flm.phase ≠ .sending ∧
      on.flm.controlActive = false ∧ (linked on).flm.controlActive = true := by decide +kernel

theorem witness_FieldCycleDecided :
    (phase .window).powered = true ∧ (phase .window).flm.phase = .window ∧ (phase .decided).flm.phase ≠ .window ∧
    LinkState.connected (linked on).flm.link = true := by decide +kernel

/-- The blocks of an operand's order. -/
theorem test_block_orders : blockList ⟨0, 0, 0⟩ = [.es, .am, .tpc, .ble] ∧ blockList ⟨1, 2, 3⟩ = [.ble, .tpc, .am, .es] := by decide

theorem witness_GoodCycleUpdatesImage :
    on.flm.image.length = 17 ∧ (List.replicate 32 15000#16).length = 32 ∧
      (let slots : List Word16 := 0#16 :: 15000#16 :: 15001#16 :: List.replicate 29 0#16;
        on.flm.mapInForce.getD 0 0 ≠ 0 ∧ (slots.getD 1 0).toNat ≤ channelMax 0 ∧ ¬(slots.getD 2 0).toNat ≤ channelMax 1) := by
  decide +kernel

theorem witness_BadCycleAgesImage :
    goodSlots on.flm.counter .nothing = none ∧ 0 < on.flm.image.length ∧ (on.chan 0).validity = .invalid ∧
    ((chanIs 0 (valid 5) on).chan 0).validity = .valid ∧
    (let c := (chanIs 0 ⟨5, .stale, 1⟩ on).chan 0;
      c.validity = .stale ∧ c.age = 1) ∧
    (let c := (chanIs 0 ⟨5, .stale, 2⟩ on).chan 0;
      c.validity = .stale ∧ c.age = 2) := by decide +kernel

def runs (l : LinkState) (good bad : Nat) : State := flmOf (fun f => { f with phase := .window, link := l, goodRun := good, badRun := bad }) on

theorem witness_LinkTransitionsAndEvents :
    (∀ l ∈ [LinkState.start, .lost], (runs l 7 0).flm.link = l ∧ (runs l 7 0).flm.goodRun < 8 ∧ 8 ≤ (runs l 8 0).flm.goodRun) ∧
    (runs .up 0 0).flm.link = .up ∧ (runs .degraded 0 2).flm.badRun < 3 ∧ 3 ≤ (runs .degraded 0 3).flm.badRun ∧
    ((runs .start 7 0).powered = true ∧ (runs .start 7 0).flm.phase = .window ∧ (runs .start 7 0).flm.goodRun = 7 ∧
      (let slots := List.replicate 32 0#16;
        (goodSlots (runs .start 7 0).flm.counter (.frame 0 slots (crc16 (fieldBytes 0 slots)))).isSome = true)) ∧
    ((runs .degraded 0 2).flm.link = .degraded ∧ (runs .degraded 0 2).flm.badRun = 2 ∧
      goodSlots (runs .degraded 0 2).flm.counter .nothing = none) ∧
    ((runs .up 0 0).flm.link ≠ .lost ∧ (flmDecision .nothing (runs .up 0 0)).flm.link ≠ .lost ∧
      (flmDecision .nothing (runs .degraded 0 2)).flm.link = .lost) := by decide +kernel

/-! ## Witnesses: blending -/

def handle (pipe handle : Nat) : State :=
  chanIs 9 (valid pipe) (chanIs 11 (valid handle) (chanIs 13 (valid 1000) (chanIs 14 (valid 1000)
    (amOf (fun a => { a with known := true, vref := 300000 }) (bleOf (fun b => { b with master := true }) (linked on))))))

theorem witness_DemandAndCapacity :
    (esOf (fun e => { e with penalty := true }) on).es.penalty = true ∧ (on.chan 9).validity = .invalid ∧
    ((handle 400 0).es.penalty = false ∧ ((handle 400 0).chan 9).validity ≠ .invalid) ∧
    (on.chan 11).validity = .invalid ∧ ((handle 400 0).chan 11).validity ≠ .invalid ∧
    on.effectiveMaster = false ∧
    (let s := handle 400 500;
      let b := s.ble.trucks.get .t1;
      s.effectiveMaster = true ∧ b.enable = true ∧ b.dbFault = false ∧ (s.am.trucks.get .t1).correction ≠ .dumping) ∧
    (let s := slide1 (fun k => { k with correction := .dumping }) (handle 400 500);
      s.effectiveMaster = true ∧ (s.am.trucks.get .t1).correction = .dumping ∧
        (s.chan Truck.t1.availChannel).validity ≠ .invalid ∧ (on.chan Truck.t1.availChannel).validity = .invalid) ∧
    (let s := slide1 (fun k => { k with ceiling := .finite 5000 }) (blend1 (fun b => { b with shortfall := .shortfall }) (handle 400 500));
      (s.am.trucks.get .t1).ceiling = .finite 5000 ∧ (s.ble.trucks.get .t1).shortfall = .shortfall) := by decide +kernel

/-- V_ref at 150 km/h. -/
def rollsAt : State := amOf (fun a => { a with known := true, vref := 1500000 }) on

/-- The worked values of R23 on the default curve, with the halving of an UNKNOWN V_ref. -/
theorem test_default_curve : [(0, 0), (800, 1150), (2000, 2300), (6000, 1650)].map (fun p =>
      ((amOf (fun a => { a with known := true, vref := p.1 * 100 }) on).curveTerm .t1,
        (amOf (fun a => { a with known := false, vref := p.1 * 100 }) on).curveTerm .t1)) =
    [(0, 0), (1150, 575), (2300, 1150), (1650, 825)] := by decide +kernel

theorem witness_CurveTerm :
    let curve := on.clp.working.dbCurve;
    curve.Pairwise (fun p q => p.1 < q.1) ∧ on.am.vref / 100 ≤ 0 ∧ on.am.known = false ∧ rollsAt.am.known = true ∧
    (∃ rest, curve = (0, 0) :: rest) ∧ (∃ rest p, curve = rest ++ [p] ∧ p.1 ≤ rollsAt.am.vref / 100) ∧
    (∃ front p q rest, curve = front ++ p :: q :: rest ∧ p.1 ≤ 29999 / 100 ∧ 29999 / 100 < q.1) :=
  ⟨by decide +kernel, by decide, rfl, rfl, ⟨_, rfl⟩,
    ⟨on.clp.working.dbCurve.take 15, on.clp.working.dbCurve.getD 15 (0, 0), by decide +kernel, by decide +kernel⟩,
    ⟨[], (0, 0), (300, 200), on.clp.working.dbCurve.drop 2, by decide +kernel, by decide, by decide⟩⟩

def followed : State :=
  cslOf (fun c => { c with role := .trail, follow := some .following }) (bleOf (fun b => { b with follow := some ⟨50, 100, 0, false, true⟩ }) (linked on))

theorem witness_SharesStayWithinCapacity :
    on.followInUse = none ∧ (cslOf (fun c => { c with role := .lead, roster := [⟨5, .active, 0, 0, 1, none⟩] }) on).leading = true ∧
      (cslOf (fun c => { c with role := .lead }) on).followInUse = none ∧ 0 ≤ 3 ∧
      followed.followInUse = some ⟨50, 100, 0, false, true⟩ ∧ on.leading = false := by decide +kernel

/-- A lead at 39.0 kN of E_auto, with a trail unit of 1.0 kN, shares 1.0 kN and fills 38.0 kN on four trucks: 9.5 kN, 21 kPa. -/
theorem test_air_fill :
    let t := bleRecompute (chanIs 9 (valid 485) (linked lead));
    t.ble.eAuto = 390 ∧ t.ble.aFill = 380 ∧ (t.ble.offered.map (fun o => (o.shares, o.fill))) = some ([(5, 10)], 21) ∧
      t.ble.trucks.t1.computedAir = 21 ∧ t.ble.trucks.t1.airTarget = 40 ∧ t.ble.handover.blend = .air := by decide +kernel

theorem witness_RequestWithinCapacity : (bleRecompute on).effectiveMaster = false ∧
    ((bleRecompute (blend1 (fun b => { b with enable := false }) on)).ble.trucks.get .t1).enable = false ∧
    ((bleRecompute (blend1 (fun b => { b with dbFault := true }) on)).ble.trucks.get .t1).dbFault = true ∧
    (let t := bleRecompute (handle 350 1000);
      t.effectiveMaster = true ∧ ((handle 350 1000).ble.trucks.get .t1).request ≤ (t.ble.trucks.get .t1).capacity * 10) ∧
    (let s := blend1 (fun b => { b with request := 99990 }) (handle 350 1000);
      ((bleRecompute s).ble.trucks.get .t1).capacity * 10 < (s.ble.trucks.get .t1).request) ∧
    (on.tpc.get .t1).state ≠ .fault ∧ ((tpc1 (fun c => { c with state := .fault }) on).tpc.get .t1).state = .fault := by
  decide +kernel

/-- An emergency that drops the request leaves what the recompute before handed to the FLM, and the below test of the next
recompute reads that (R36). -/
theorem test_below_reads_handed :
    let s := emergencyEnter .hostApply (blend1 (fun b => { b with request := 10000, handed := 10000 }) (handle 350 1000));
    (s.ble.trucks.get .t1).request = 0 ∧ (belowStep s .t1).below = some 0 := by decide +kernel

theorem witness_BlendStateShown :
    let efforts (s : State) : Nat × Nat :=
      let k := (bleUpdate s).ble.trucks;
      (k.t1.dynTarget + k.t2.dynTarget, k.t1.computedAir + k.t2.computedAir);
    LinkState.connected on.flm.link = false ∧ LinkState.connected (linked on).flm.link = true ∧
    (esOf (fun e => { e with latch := true }) (linked on)).es.latch = true ∧ (handle 500 0).es.latch = false ∧
    efforts (handle 500 0) = (0, 0) ∧
    (0 < (efforts (handle 500 1000)).1 ∧ (efforts (handle 500 1000)).2 = 0) ∧
    (0 < (efforts (handle 350 0)).1 ∧ 0 < (efforts (handle 350 0)).2) ∧
    ((efforts (bleOf (fun b => { b with master := false }) (handle 350 0))).1 = 0 ∧
      0 < (efforts (bleOf (fun b => { b with master := false }) (handle 350 0))).2) := by decide +kernel

theorem witness_ShortfallAndDbFault :
    on.powered = true ∧ (on.ble.trucks.get .t1).shortfall = .normal ∧
    ((blend1 (fun b => { b with below := some 200 }) on).ble.trucks.get .t1).below = some 200 ∧
    ((blend1 (fun b => { b with below := some 195 }) on).ble.trucks.get .t1).below = some 195 ∧
    (let b := (blend1 (fun b => { b with shortfall := .shortfall, clear := some 1000, duration := 5000 }) on).ble.trucks.get .t1;
      b.shortfall = .shortfall ∧ b.clear = some 1000 ∧ 5000 ≤ b.duration) ∧
    (let b := (blend1 (fun b => { b with shortfall := .shortfall, clear := some 995, duration := 4995 }) on).ble.trucks.get .t1;
      b.clear = some 995 ∧ b.duration < 5000) := by decide +kernel

/-- A request of 100 kN as handed, the achieved effort in kN×10 and truck 1's blend record. -/
def braked (achieved : Nat) (f : TruckBlend → TruckBlend) : State :=
  chanIs 15 (valid achieved) (blend1 (fun b => f { b with handed := 10000 }) (handle 500 1000))

/-- The below test of R36 at 850, one below its bound and at it: 0.9 × 100 kN − 5 kN. -/
theorem witness_BelowTest :
    (let below (s : State) : Prop := 10 * s.achieved .t1 + 500 < 9 * ((s.ble.trucks.get .t1).handed / 10);
      below (braked 849 id) ∧ ¬below (braked 850 id)) ∧
    ((braked 849 id).ble.trucks.get .t1).shortfall = .normal ∧ ((braked 849 id).ble.trucks.get .t1).below = none ∧
    (∀ n ∈ [190, 195], ((braked 849 (fun b => { b with below := some n })).ble.trucks.get .t1).below = some n) ∧
    (∀ x ∈ [ShortfallState.shortfall, .fault],
      ((braked 849 (fun b => { b with shortfall := x })).ble.trucks.get .t1).shortfall = x) := by decide +kernel

/-- The clear test of R37 at the wanted request of `braked`. -/
theorem witness_ClearTest :
    (Truck.t2 ≠ .t1 ∧ (braked 0 id).effectiveMaster = true ∧ ((braked 0 id).ble.trucks.get .t1).enable = true ∧
      ((braked 0 id).ble.trucks.get .t1).dbFault = false) ∧ on.effectiveMaster = false ∧
    ¬95 * (braked 0 id).wanted .t1 ≤ 100 * (braked 0 id).achieved .t1 ∧
    95 * (braked 1000 id).wanted .t1 ≤ 100 * (braked 1000 id).achieved .t1 ∧
    (∀ n ∈ [none, some 990, some 995], let b := (braked 1000 (fun b => { b with shortfall := .shortfall, clear := n })).ble.trucks.get .t1;
      b.shortfall = .shortfall ∧ b.clear = n) ∧
    (∀ n ∈ [4990, 4995], let s := braked 0 (fun b => { b with shortfall := .shortfall, duration := n });
      let d := clearStep { s with ble := { s.ble with trucks := ⟨belowStep s .t1, belowStep s .t2⟩ } } .t1;
      d.shortfall = .shortfall ∧ d.duration = n + 5) := by decide +kernel

/-! ## Witnesses: truck pressure channels -/

def chan (bc : Channel) (f : Tpc → Tpc) : State := chanIs 6 bc (tpc1 f (linked on))
def shown (bc : Channel) (f : Tpc → Tpc) : Tpc := (tpcDecide .t1 (chan bc f)).tpc.get .t1
def wants (kpa : Nat) (c : Tpc) : Tpc := { c with state := .lapped, claims := { c.claims with air := kpa } }

theorem witness_ChannelStateTable :
    LinkState.connected on.flm.link = false ∧ LinkState.connected (chan (valid 0) id).flm.link = true ∧
    (tpc1 (fun c => { c with latch := .noApply }) on).tpc.t1.latch ≠ .clear ∧ (on.chan 6).validity = .invalid ∧
    (tpc1 (fun c => { c with claims := { c.claims with slide := .dumping } }) on).tpc.t1.claims.slide = .dumping ∧
    ((chan ⟨0, .stale, 1⟩ id).chan 6).validity = .stale ∧
    ((shown (valid 0) (wants 11)).latch = .clear ∧ 0 + 10 < (shown (valid 0) (wants 11)).target) ∧
    (shown (valid 11) (wants 0)).target + 10 < 11 ∧
    ((shown (valid 0) (wants 10)).target ≤ 0 + 10 ∧ 0 ≤ (shown (valid 0) (wants 10)).target + 10) ∧
    (shown (valid 0) (fun c => { wants 11 c with state := .applying, window := 995, noProgress := 2 })).latch ≠ .clear := by
  decide +kernel

theorem witness_ChannelTarget :
    LinkState.connected on.flm.link = false ∧ LinkState.connected (chan (valid 0) id).flm.link = true ∧
    (shown (valid 0) (fun c => { wants 50 c with claims := { c.claims with emergency := true } })).claims.emergency = true ∧
    (let d := shown (valid 20) (fun c => { c with claims := { c.claims with air := 50, slide := .settling }, slideRead := .dumping });
      d.claims.emergency = false ∧ d.ramp = some 2000) ∧
    (let d := shown (valid 0) (wants 50);
      d.claims.emergency = false ∧ d.ramp = none ∧ d.latch = .clear) ∧
    (let c := (chan (valid 20) (fun c => { c with claims := { c.claims with air := 50, slide := .settling }, slideRead := .reapplyHold })).tpc.get .t1;
      c.latch = .clear ∧ c.claims.emergency = false ∧ c.claims.slide = .settling ∧ c.slideRead = .reapplyHold) ∧
    (tpc1 (fun c => { c with latch := .noApply }) on).tpc.t1.latch ≠ .clear ∧
    (∀ x ∈ [ChannelState.applying, .fault], let s := chan ⟨0, .invalid, 0⟩ (fun c => { c with state := x });
      LinkState.connected s.flm.link = true ∧ (s.chan 6).validity = .invalid ∧ (s.tpc.get .t1).state = x) := by decide +kernel

/-- The settle ramp starts at BC, rises by 0.2 kPa and ends where it reaches the base (R49). -/
theorem test_settle_ramp :
    let c (r : Option Nat) (read : Correction) (t : Tpc) : Tpc :=
      { t with claims := { t.claims with air := 50, slide := .settling }, slideRead := read, ramp := r };
    (shown (valid 20) (c none .dumping)).ramp = some 2000 ∧ (shown (valid 20) (c (some 2000) .settling)).ramp = some 2020 ∧
      (shown (valid 20) (c (some 4980) .settling)).ramp = none ∧ (shown (valid 20) (c (some 4979) .settling)).ramp = some 4999 ∧
      (shown (valid 50) (c none .dumping)).ramp = none := by decide +kernel

/-- In OFF the sensor fault clears at a decision with BC VALID and at no other (R54). -/
theorem test_sensor_fault_clears :
    let s (bc : Channel) : State := chanIs 6 bc (tpc1 (fun c => { c with sensorFault := true }) on);
    (tpcDecide .t1 (s (valid 9))).tpc.t1.sensorFault = false ∧ (tpcDecide .t1 (s ⟨9, .invalid, 0⟩)).tpc.t1.sensorFault = true := by
  decide +kernel

theorem witness_SupervisionReset :
    ((shown (valid 0) (wants 10)).state ≠ .applying ∧ (shown (valid 0) (wants 10)).state ≠ .releasing) ∧
    ((shown (valid 0) (wants 11)).state = .applying ∧ (shown (valid 0) (wants 11)).state ≠ (wants 11 Tpc.boot).state) ∧
    (shown (valid 11) (wants 0)).state = .releasing := by decide +kernel

def supervised (st : ChannelState) (window count ref : Nat) : State :=
  chan (valid 20) (fun c => { c with state := st, window := window, noProgress := count, progressRef := ref })

theorem witness_SupervisionAndChannelFault :
    (let c := (supervised .applying 1000 3 15).tpc.get .t1;
      1000 ≤ c.window ∧ c.state = .applying ∧ c.progressRef + 5 ≤ 20 ∧ 3 ≤ c.noProgress ∧ c.latch = .clear) ∧
    20 < ((supervised .applying 1000 0 16).tpc.get .t1).progressRef + 5 ∧
    (let c := (supervised .releasing 1000 3 25).tpc.get .t1;
      1000 ≤ c.window ∧ c.state = .releasing ∧ 20 + 5 ≤ c.progressRef ∧ 3 ≤ c.noProgress ∧ c.latch = .clear) ∧
    ((supervised .releasing 1000 0 24).tpc.get .t1).progressRef < 20 + 5 ∧
    (((supervised .applying 995 2 0).tpc.get .t1).window < 1000 ∧ ((supervised .applying 995 2 0).tpc.get .t1).noProgress < 3) := by
  decide +kernel

theorem witness_FaultClearForms :
    on.ready ⟨0x0E#8, 0#8, [1#8, 0#8]⟩ ∧ on.ready ⟨0x0E#8, 0#8, [2#8, 1#8]⟩ ∧ on.ready ⟨0x0E#8, 0#8, [1#8, 2#8]⟩ ∧
    on.ready ⟨0x0E#8, 0#8, [1#8, 3#8]⟩ ∧ on.ready ⟨0x0E#8, 0#8, [0#8, 0#8]⟩ ∧ on.ready ⟨0x0E#8, 0#8, [3#8, 1#8]⟩ ∧
    on.ready ⟨0x0E#8, 0#8, [3#8, 2#8]⟩ ∧ truckOf 1 = some .t1 ∧ truckOf 2 = some .t2 ∧ truckOf 0 = none ∧ truckOf 3 = none ∧
    2 < (3#8).toNat := by unfold State.ready; decide +kernel

theorem witness_DynamicEnableTakes : on.ready ⟨0x0A#8, 0#8, [1#8, 1#8]⟩ := by unfold State.ready; decide +kernel

/-! ## Witnesses: adhesion -/

def speeds (s : State) : State := chanIs 0 (valid 3000) (chanIs 1 (valid 2900) s)

theorem witness_ReferenceSpeedMoves :
    2 ≤ (speeds on).candidates.length ∧ (chanIs 0 (valid 3000) on).candidates.length < 2 ∧ on.candidates.length < 2 ∧
    (let s := tpc1 (fun c => { c with target := 31 }) (speeds (moving on));
      s.braking = true ∧ s.am.known = true ∧ s.am.vref ≤ 1500000 ∧ s.am.lostNotified = false) ∧
    (amOf (fun a => { a with lostNotified := true }) on).am.lostNotified = true ∧
    (3000 * 100 ∈ (speeds on).candidates ∧ (∀ v ∈ (speeds on).candidates, v ≤ 3000 * 100) ∧
      (∀ known, (tpc1 (fun c => { c with target := 31 }) (speeds (amOf (fun a => { a with known := known }) on))).braking = true)) ∧
    (let s := amOf (fun a => { a with lostNotified := true }) (speeds on);
      2 ≤ s.candidates.length ∧ s.am.lostNotified = true ∧ s.braking = false ∧ 2900 * 100 ∈ s.candidates ∧
      (s.candidates.filter (fun v => decide (v < 2900 * 100))).length ≤ (s.candidates.length - 1) / 2 ∧
      (s.candidates.length - 1) / 2 < (s.candidates.filter (fun v => decide (v ≤ 2900 * 100))).length) := by decide +kernel

/-- V_ref at 100 km/h. -/
def rolls : State := amOf (fun a => { a with known := true, vref := 1000000 }) on

theorem witness_AxleTransitions :
    on.powered = true ∧
    (let r := (axle1 (fun r => { r with state := .suspect, confirm := 3 }) on).am.axles.get .a1;
      r.state = .suspect ∧ 3 ≤ r.confirm) ∧
    (let r := (axle1 (fun r => { r with state := .recovery, recovery := 200 }) on).am.axles.get .a1;
      r.state = .recovery ∧ 200 ≤ r.recovery) ∧
    (let r := (axle1 (fun r => { r with invalid := 3 }) on).am.axles.get .a1;
      r.state ≠ .excluded ∧ 3 ≤ r.invalid) ∧
    1000 ≤ ((axle1 (fun r => { r with overSpeed := 1000 }) on).am.axles.get .a1).overSpeed ∧
    (let r := (axle1 (fun r => { r with state := .excluded, ret := 2000 }) on).am.axles.get .a1;
      r.state = .excluded ∧ 2000 ≤ r.ret) ∧
    (∀ st ∈ [AxleState.rolling, .suspect, .sliding, .recovery], ∀ v ∈ [9000, 9851], ∀ n ∈ [1, 2, 190, 195],
      let s := axle1 (fun r => { r with state := st, confirm := n, recovery := n }) (chanIs 0 (valid v) rolls);
      let m := (axleStep true false s).am.axles.get .a1;
      (s.am.axles.get .a1).state ≠ .excluded ∧ s.am.known = true ∧ (s.chan 0).validity = .valid ∧ m.state ≠ .excluded) ∧
    (((1000000 : Int) - (9000 * 100 : Nat) > (150 * 100 : Nat) ∧ ((1000000 : Int) - (9000 * 100 : Nat)) * 100 > (3 * 1000000 : Nat)) ∧
      (1000000 : Int) - (9951 * 100 : Nat) < 5000 ∧ 5000 ≤ (1000000 : Int) - (9950 * 100 : Nat)) ∧
    (∀ b, let s := axle1 (fun r => { r with state := .sliding }) on;
      s.am.known = false ∧ (s.chan 0).validity ≠ .valid ∧ ((axleStep b false s).am.axles.get .a1).state ≠ .excluded) ∧
    (∀ n ∈ [1990, 1995], let s := axle1 (fun r => { r with state := .excluded, ret := n }) (chanIs 0 (valid 10100) rolls);
      (s.am.axles.get .a1).state = .excluded ∧ s.am.known = true ∧ (s.chan 0).validity = .valid ∧
        -10000 ≤ (s.am.vref : Int) - ((s.chan 0).value * 100 : Nat)) := by decide +kernel

/-- An axle without a VALID speed in SLIDING while V_ref is UNKNOWN: held, or sent to ROLLING, by the decision's choice (log 41). -/
theorem test_held_without_vref : ∀ b,
    let s := axle1 (fun r => { r with state := .sliding }) on;
    ((axleStep b false s).am.axles.get .a1).state = if b then .sliding else .rolling := by decide +kernel

def correcting (c : Correction) (ms : Nat) (latched : Bool) : State := slide1 (fun k =>
  { k with correction := c, dump := ms, dumpLimit := 3000, hold := ms, holdLimit := 1500, settle := ms, latched := latched }) on
def sliding : State → State := axle1 (fun r => { r with state := .sliding })

/-- With V_ref UNKNOWN and a SLIDING axle whose speed is STALE: no correction enters DUMPING (R65), a hold ends in SETTLING (R78),
and a dump goes on where R69 holds the axle and to SETTLING where R65 takes it to ROLLING (log 41). -/
theorem test_correction_without_vref : ∀ b,
    [(Correction.idle, false), (.settling, false), (.reapplyHold, true), (.dumping, false)].map (fun c =>
      ((amUpdate b (chanIs 0 ⟨900, .stale, 1⟩ (linked (sliding (correcting c.1 1495 c.2))))).am.trucks.get .t1).correction) =
    [.idle, .idle, .settling, if b then .dumping else .settling] := by decide +kernel

theorem witness_ForcedReapplyAndSettleEnd :
    (let c := (correcting .dumping 3000 false).am.trucks.get .t1;
      c.correction = .dumping ∧ c.dumpLimit ≤ c.dump) ∧
    ((correcting .dumping 2995 false).am.trucks.get .t1).dump < ((correcting .dumping 2995 false).am.trucks.get .t1).dumpLimit ∧
    (on.am.trucks.get .t1).correction ≠ .dumping ∧
    (let c := (correcting .settling 1000 false).am.trucks.get .t1;
      c.correction = .settling ∧ 1000 ≤ c.settle) ∧
    ((correcting .settling 995 false).am.trucks.get .t1).settle < 1000 := by decide +kernel

theorem witness_ReapplyHoldEnds :
    on.powered = true ∧
    (∀ l ∈ [true, false], (let c := (correcting .reapplyHold 1500 l).am.trucks.get .t1;
      c.correction = .reapplyHold ∧ c.holdLimit ≤ c.hold ∧ c.latched = l)) ∧
    (sliding (correcting .reapplyHold 1500 true)).sliding .t1 = true ∧ (correcting .reapplyHold 1500 true).sliding .t1 = false ∧
    ((moving (sliding (correcting .reapplyHold 1500 true))).am.known = true ∧ (correcting .reapplyHold 1500 true).am.known = false) ∧
    (on.am.trucks.get .t1).ceiling = .unlimited ∧
    ((slide1 (fun k => { k with ceiling := .finite 5000 }) on).am.trucks.get .t1).ceiling = .finite 5000 := by decide +kernel

theorem witness_DumpIsBounded :
    (let c := (correcting .dumping 2995 false).am.trucks.get .t1;
      c.correction = .dumping ∧ c.dumpLimit ≤ c.dump + 5) ∧
    (let c := (correcting .reapplyHold 1490 false).am.trucks.get .t1;
      c.correction = .reapplyHold ∧ c.hold + 5 < c.holdLimit) ∧
    (∀ x ∈ [Correction.idle, .settling, .dumping], ((correcting x 990 false).am.trucks.get .t1).correction = x ∧
      (sliding (correcting x 990 false)).sliding .t1 = true ∧ (correcting x 990 false).sliding .t1 = false ∧
      (let s := moving (sliding (correcting x 990 false)); s.am.known && s.sliding .t1) = true) ∧
    (∀ b, ∀ x ∈ [Correction.idle, .dumping], let s := linked (correcting x 990 false);
      LinkState.connected s.flm.link = true ∧ (amUpdate b s).am.known = false ∧ (s.am.trucks.get .t1).correction = x ∧
        (s.am.axles.get .a1).state ≠ .sliding) ∧
    ((correcting .settling 990 false).am.trucks.get .t1).settle + 5 < 1000 ∧
    1000 ≤ ((correcting .settling 995 false).am.trucks.get .t1).settle + 5 ∧
    ((correcting .dumping 2990 false).am.trucks.get .t1).dump + 5 < ((correcting .dumping 2990 false).am.trucks.get .t1).dumpLimit := by
  decide +kernel

theorem witness_SandRequests : LinkState.connected (linked on).flm.link = true ∧ LinkState.connected on.flm.link = false ∧
    ((on.am.trucks.get .t1).correction = .idle ∧ ((amUpdate true (linked on)).am.trucks.get .t1).correction = .idle) ∧
    ((correcting .dumping 5 false).am.trucks.get .t1).correction = .dumping ∧
    ((amUpdate true (linked (correcting .settling 5 false))).am.trucks.get .t1).correction ≠ .dumping := by decide +kernel

/-- A ceiling rises by 0.05 kN an update at 10 kN/s and is OPEN above 999.9 kN (R79). -/
theorem test_ceiling_rises : [4000, 99985, 99986].map (fun n => ((amUpdate true (slide1 (fun k => { k with ceiling := .finite n })
    (linked on))).am.trucks.get .t1).ceiling) = [.finite 4005, .finite 99990, .unlimited] := by decide +kernel

/-! ## Witnesses: emergency and penalty -/

theorem witness_PipeRateTest : on.following = false := by decide +kernel

def latched (held : Nat) : State → State := esOf (fun e => { e with latch := true, cause := .hostApply, held := held })
def pipe (kpa : Nat) : State → State := chanIs 8 (valid kpa)
def trail : State := cslOf (fun c => { c with role := .trail, follow := some .following, enrolled := true, leadId := 9, silence := some 200 }) on

theorem witness_EmergencyCauses :
    on.es.latch = false ∧ (latched 0 on).es.latch = true ∧ on.ready ⟨0x0C#8, 0#8, []⟩ ∧ (latched 0 on).ready ⟨0x0C#8, 0#8, []⟩ ∧
    pipeRateTest (esOf (fun e => { e with history := List.replicate 20 (500, .valid) }) on).es.history ((pipe 494 on).chan 8) = true ∧
    pipeRateTest (esOf (fun e => { e with history := List.replicate 20 (500, .valid) }) on).es.history ((pipe 495 on).chan 8) = false ∧
    (let s := esOf (fun e => { e with charged := true }) (pipe 149 on);
      (s.es.charged && decide ((s.chan 8).validity = .valid) && decide ((s.chan 8).value < 150)) = true) ∧
    (let s := esOf (fun e => { e with charged := true }) (pipe 150 on);
      (s.es.charged && decide ((s.chan 8).validity = .valid) && decide ((s.chan 8).value < 150)) = false) ∧
    (∀ p ∈ [400, 399], let s := esOf (fun e => { e with shareFlag := some false }) (latched 60000 (pipe p trail));
      s.csl.role = .trail ∧ s.csl.follow = some .following ∧ s.es.latch = true ∧ s.es.shareFlag = some false ∧
        (s.chan 8).validity = .valid ∧ (s.chan 8).value = p ∧ 60000 ≤ s.es.held) ∧
    (on.es.seen.find? (fun p => p.1 == 5)).map (fun p => p.2) ≠ some true ∧
    ((esOf (fun e => { e with seen := [(5, true)] }) on).es.seen.find? (fun p => p.1 == 5)).map (fun p => p.2) = some true := by
  unfold State.ready; decide +kernel

/-- A latched trail that rejoins raises the cause where the flag recorded for it stood clear, and not where it stood set (log 49). -/
theorem test_rejoin_latched :
    let e : Entry := { entryOf .lost 0 3 with
      last := some ⟨10, 0, 0, 0, ⟨⟨false, false⟩, true, ⟨false, false⟩, false, false⟩, 0#8, 0⟩ };
    [false, true].map (fun seen => (entryJoined 5 (esOf (fun e => { e with seen := [(5, seen)] })
      (cslOf (fun c => { c with role := .lead, roster := [e] }) on))).es.latch) = [true, false] := by decide +kernel

theorem witness_EmergencyEntry : on.clp.working.emergDynamic = .drop ∧ (on.tpc.get .t1).state = .off ∧
    ((tpc1 (fun c => { c with state := .lapped }) on).tpc.get .t1).state ≠ .off ∧
    (clpOf (fun c => { c with working := { c.working with emergDynamic := .keep } }) on).clp.working.emergDynamic = .keep := by
  decide +kernel

/-- The exit clears the emergency flag of the set offered, and the SHARE built next has it clear (R92; log 42). -/
theorem test_share_after_exit :
    let s := latched 60000 (bleOf (fun b => { b with offered := some { shares with emergency := true } }) lead);
    s.ble.offered.map (fun o => (s.shareFrame 5 o).body) = some (.share 0 10 0 0 true false false true) ∧
      (emergencyExit .reset s).ble.offered.map (fun o => (s.shareFrame 5 o).body) =
        some (.share 0 10 0 0 false false false true) := by decide +kernel

theorem witness_EmergencyResetTests :
    trail.ready ⟨0x0D#8, 0#8, []⟩ ∧ (trail.csl.role = .trail ∧ trail.csl.follow = some .following) ∧
    on.ready ⟨0x0D#8, 0#8, []⟩ ∧ on.csl.role ≠ .trail ∧ on.es.latch = false ∧
    (latched 59995 on).ready ⟨0x0D#8, 0#8, []⟩ ∧ (latched 59995 on).es.held < 60000 ∧ 60000 ≤ (latched 60000 on).es.held ∧
    (latched 60000 (moving on)).ready ⟨0x0D#8, 0#8, []⟩ ∧ ¬(moving on).am.vref < 5000 ∧
    ((still on).am.known = true ∧ (still on).am.vref < 5000) ∧
    (latched 60000 (still (pipe 399 on))).ready ⟨0x0D#8, 0#8, []⟩ ∧ ¬400 ≤ ((pipe 399 on).chan 8).value ∧
    (latched 60000 (still (pipe 400 on))).ready ⟨0x0D#8, 0#8, []⟩ ∧
    (((pipe 400 on).chan 8).validity = .valid ∧ 400 ≤ ((pipe 400 on).chan 8).value) := by unfold State.ready; decide +kernel

def penalised : State → State := esOf (fun e => { e with penalty := true, penaltyCode := 3 })

theorem witness_PenaltyRequests :
    on.ready ⟨0x0B#8, 0#8, [0#8]⟩ ∧ on.ready ⟨0x0B#8, 0#8, [1#8]⟩ ∧ (penalised on).ready ⟨0x0B#8, 0#8, [1#8]⟩ ∧
    on.ready ⟨0x0B#8, 0#8, []⟩ ∧ on.es.penalty = false ∧
    ((penalised (moving on)).ready ⟨0x0B#8, 0#8, []⟩ ∧ (penalised (moving on)).es.penalty = true ∧ ¬(moving on).am.vref < 5000) ∧
    ((penalised (still on)).ready ⟨0x0B#8, 0#8, []⟩ ∧ (still on).am.known = true ∧ (still on).am.vref < 5000) := by
  unfold State.ready; decide +kernel

/-! ## Witnesses: capture -/

def sealing (ticks : Nat) (s : State) : State := capOf (fun c => { c with sealTicks := ticks }) s
/-- A full ring whose oldest block is the open record's next. -/
def overrunning : State := capOf (fun c => { c with
  ring := (List.range 512).map (fun k => blockOf (BitVec.ofNat 32 (k + 9))), sealTicks := 4, record := some { openRec with copied := 0 } }) (capturing 521)

theorem witness_TimedRows :
    4 ≤ (sealing 4 on).cap.sealTicks ∧ (sealing 3 on).cap.sealTicks < 4 ∧ (sealing 4 on).overruns = false ∧
    (overrunning.overruns = true ∧ overrunning.cap.record = some { openRec with copied := 0 } ∧
      overrunning.cap.state = .capturing ∧ pageWriting overrunning.store.port = false ∧ 4 ≤ overrunning.cap.sealTicks) ∧
    (∀ n ∈ [(0 : Int), -5, 5], (clpOf (fun c => { c with reportIn := some n }) on).clp.reportIn = some n) ∧
    on.clp.working.reportInterval ≠ 0 ∧
    (clpOf (fun c => { c with working := { c.working with reportInterval := 0 } }) on).clp.working.reportInterval = 0 := by
  decide +kernel

/-- A page write on the port or waiting, or no opening entry yet: an overrun then decides the status alone (R139, R143). -/
theorem witness_Overrun :
    (let s := port (.page 0 0 []) overrunning;
      s.overruns = true ∧ s.cap.state = .capturing ∧ s.store.port = some (.page 0 0 []) ∧ 4 ≤ s.cap.sealTicks) ∧
    (let s := storeOf (fun x => { x with writer := some .page }) overrunning;
      s.overruns = true ∧ s.store.writer = some .page ∧ s.store.port = none) ∧
    (let s := capOf (fun c => { c with state := .allocating }) overrunning;
      s.overruns = true ∧ s.cap.state = .allocating ∧ 4 ≤ s.cap.sealTicks) := by decide +kernel

/-- The open record at its first page: that page's four blocks are sealed at a fill of 13 and not at 12. -/
def firstPage (fill : Word32) : State := capOf (fun c => { c with record := some { openRec with copied := 0 } }) (capturing fill)

/-- The seal that completes a page has the writer ask for it, the one before does not, nor where it waits or is in progress, nor
in ALLOCATING (R142). -/
theorem test_writer_asks :
    let asks (s : State) : Bool := (sealBlock (sealing 4 s)).store.writer == some .page;
    asks (firstPage 12) = true ∧ asks (firstPage 11) = false ∧ asks (port (.page 0 0 []) (firstPage 12)) = false ∧
      asks (capOf (fun c => { c with state := .allocating }) (firstPage 12)) = false ∧
      (firstPage 12).overruns = false ∧ (firstPage 12).cap.state = .capturing ∧ (firstPage 12).store.writer = none := by
  decide +kernel

/-- An overrun ends the window at once with no page write in progress, and leaves CAPTURING else. -/
theorem test_overrun :
    (sealBlock overrunning).cap.state = .closing ∧
      (sealBlock (port (.page 0 0 []) overrunning)).cap.state = .capturing ∧
      (sealBlock (storeOf (fun x => { x with writer := some .page }) overrunning)).store.writer = none ∧
      ((sealBlock (capOf (fun c => { c with state := .allocating }) overrunning)).cap.record.map (fun r => r.close)) =
        some (some .truncated) := by decide +kernel

def pendingAt (n : Word32) : PendingTrigger := ⟨.hostMark, n, 0, 0, 5, 0#24⟩

theorem witness_CaptureCompletions :
    (let s := port (.page 0 1 []) (capturing 16);
      s.powered = true ∧ s.store.port = some (.page 0 1 []) ∧ s.cap.record = some openRec ∧ openRec.close = none ∧
        openRec.slot = 0 ∧ 0 < s.store.dir.length ∧ (s.entry 0).record = some (record false false) ∧
        openRec.pre + openRec.post ≤ openRec.copied ∧
        ({ openRec with copied := 5 } : OpenRecord).copied < openRec.pre + openRec.post) ∧
    (port (.reclaimErase 0) on).store.port = some (.reclaimErase 0) ∧
    (let s := port (.opening 0 (record false false)) (capturing 16);
      s.store.port = some (.opening 0 (record false false)) ∧ s.cap.record = some openRec) ∧
    ({ openRec with close := some .truncated } : OpenRecord).close = some .truncated ∧
    (let s := port (.dir ⟨0, .closing⟩ (record false false)) (capturing 16);
      s.store.port = some (.dir ⟨0, .closing⟩ (record false false)) ∧ (record false false).close = some .complete ∧
        s.cap.waiting = []) ∧
    (on.freeSlot = some 0 ∧ on.store.nextNumber ≤ 4294967295) ∧ ((full true).freeSlot = none ∧ (full true).reclaimSlot = none) ∧
    ((full false).freeSlot = none ∧ (full false).reclaimSlot = some (0, 7)) ∧
    (let v := openCapture (pendingAt 10) 0 on;
      v.cap.record.isSome = true ∧ 0 < v.store.dir.length ∧ (v.entry 0).record.isSome = true) ∧
    (openCapture (pendingAt 10) 0 (full true)).cap.record = none := by decide +kernel

/-- The next page is asked for after a verified page and after the opening entry where its blocks are sealed, and not before
(R142). -/
theorem test_next_page_asked :
    let asks (s : State) : Bool := s.store.writer == some .page;
    let verified (fill : Word32) : State := port (.page 0 0 []) (firstPage fill);
    let opened (fill : Word32) : State := port (.opening 0 (record false false)) (capOf (fun c => { c with state := .allocating }) (firstPage fill));
    asks (pageWriteDone true (verified 13)) = true ∧ asks (pageWriteDone true (verified 12)) = false ∧
      asks (openingEntryWritten (opened 13)) = true ∧ asks (openingEntryWritten (opened 12)) = false ∧
      (openingEntryWritten (opened 12)).cap.state = .capturing := by decide +kernel

/-- After a close the first pending trigger opens, the one within its window joins it, the one beyond stays pending (R146). -/
theorem test_take_pending :
    let t := takePending [pendingAt 10, pendingAt 14, pendingAt 15] on;
    (t.cap.record.map (fun r => r.trigBlock)) = some 10 ∧ t.cap.waiting = [pendingAt 15] ∧
      ((t.entry 0).record.map (fun i => i.secondary)) = some [(.hostMark, 4)] := by decide +kernel

theorem witness_MarkReplies :
    let f : ReqFrame := ⟨0x0F#8, 0#8, []⟩;
    on.ready f ∧ (clpOf (fun c => { c with working := { c.working with triggerEnable := 1#8 } }) on).ready f ∧
    (clpOf (fun c => { c with working := { c.working with triggerEnable := 1#8 } }) on).clp.working.admits .hostMark = false ∧
    (on.clp.working.admits .hostMark = true ∧ on.cap.state = .idle ∧ on.store.nextNumber ≤ 4294967295 ∧ on.freeSlot.isSome = true) ∧
    ((full false).ready f ∧ (full false).store.nextNumber ≤ 4294967295 ∧ (full false).freeSlot = none ∧
      (full false).reclaimSlot.isSome = true) ∧
    (let s := storeOf (fun x => { x with nextNumber := 4294967296 }) on;
      s.ready f ∧ s.cap.state = .idle ∧ s.cap.record = none ∧ 4294967295 < s.store.nextNumber) ∧
    ((full true).ready f ∧ (full true).cap.record = none ∧ (full true).freeSlot = none ∧ (full true).reclaimSlot = none) ∧
    ((capturing 14).ready f ∧ (capturing 14).cap.state = .capturing ∧ (capturing 14).cap.record = some openRec ∧
      ((capturing 14).cap.fill - (openRec.trigBlock - BitVec.ofNat 32 openRec.pre)).toNat < openRec.pre + openRec.post) ∧
    ((capturing 15).ready f ∧ (capturing 15).cap.waiting.length < 4 ∧
      openRec.pre + openRec.post ≤ ((capturing 15).cap.fill - (openRec.trigBlock - BitVec.ofNat 32 openRec.pre)).toNat) ∧
    (capOf (fun c => { c with waiting := (waiting 4).cap.waiting }) (capturing 15)).ready f ∧
    ((waiting 3).ready f ∧ (waiting 3).cap.state = .closing ∧ (waiting 3).cap.waiting.length < 4) ∧
    ((waiting 4).ready f ∧ 4 ≤ (waiting 4).cap.waiting.length) := by unfold State.ready; decide +kernel

/-! ## Witnesses: the consist line -/

def line (j : LineJob) : State → State := cslOf (fun c => { c with line := j })
def aRelease : ConsistFrame := ⟨1, 5, .release⟩

theorem witness_LeadSends :
    (lead.csl.role = .lead ∧ 8 ≤ lead.csl.cycleTicks ∧ lead.csl.conflict = false ∧ lead.csl.line = .idle ∧
      lead.csl.releases = [] ∧ lead.ble.offered = some shares ∧
      ((lead.csl.roster.map Entry.aged).filter (fun e => e.state == .active || (0#16).toNat % 10 == 0)).map (fun e => e.ident) =
        5 :: []) ∧
    (cslOf (fun c => { c with conflict := true }) lead).csl.conflict = true ∧
    on.csl.role ≠ .lead ∧ (cslOf (fun c => { c with cycleTicks := 7 }) lead).csl.cycleTicks < 8 ∧
    (line (.sending aRelease (some (.enrol 5))) lead).csl.line = .sending aRelease (some (.enrol 5)) ∧
    (line (.sending aRelease none) on).csl.line = .sending aRelease none ∧
    (line (.sending aRelease none) lead).csl.role = .lead ∧
    (cslOf (fun c => { c with releases := [⟨1, 5, false⟩] }) lead).csl.releases = ⟨1, 5, false⟩ :: [] := by decide +kernel

/-- Leaving the lead role keeps the RELEASE of an earlier leaving and drops that of ROSTER_RELEASE (R102, R98). -/
theorem test_releases_kept :
    (leaveLead (cslOf (fun c => { c with releases := [⟨3, Config.allUnits, true⟩, ⟨1, 5, false⟩] }) lead)).csl.releases =
      [⟨3, Config.allUnits, true⟩, ⟨1, Config.allUnits, true⟩] := by decide +kernel

def status : ConsistFrame := ⟨5, 1, .status 0 10 0 0 0 ⟨⟨false, false⟩, false, ⟨false, false⟩, false, false⟩ 0⟩
def garbled : LineRx := ⟨true, true, true, true, [0xC3#8]⟩
def withEntry (e : Entry) : State := line (.window (.exchange 5 0)) (cslOf (fun c => { c with roster := [e] }) lead)

theorem witness_ExchangeDecided :
    ((withEntry (entryOf .active 2 0)).powered = true ∧
      (withEntry (entryOf .active 2 0)).rosterEntry 5 = some (entryOf .active 2 0) ∧
      (withEntry (entryOf .active 2 0)).csl.line = .window (.exchange 5 0) ∧ (rxOf status).inTime = true ∧
      cleanFrame (rxOf status) = some ⟨5, (withEntry (entryOf .active 2 0)).ownIdentity, status.body⟩) ∧
    (let s := withEntry (entryOf .active 2 0);
      s.foreignTaken [rxOf status] = none ∧ s.foreignTaken [] = none ∧ s.foreignTaken [garbled] = none ∧
        (goodStatus s.ownIdentity 5 0 [rxOf status]).isSome = true ∧ goodStatus s.ownIdentity 5 0 [] = none ∧
        goodStatus s.ownIdentity 5 0 [garbled] = none ∧ goodStatus s.ownIdentity 5 0 [rxOf status, garbled] = none) ∧
    (entryOf .lost 0 2).state = .lost ∧ 3 ≤ (entryOf .lost 0 2).good + 1 ∧ ¬3 ≤ (entryOf .lost 0 1).good + 1 ∧
    3 ≤ min 255 ((entryOf .active 2 0).miss + 1) ∧ ¬3 ≤ min 255 ((entryOf .active 1 0).miss + 1) ∧ 3 ≤ (entryOf .active 3 0).miss ∧
    ((withEntry (entryOf .lost 0 3)).rosterEntry 5 = some (entryOf .lost 0 3) ∧ 3 ≤ (entryOf .lost 0 3).good) ∧
    (let s := withEntry (entryOf .active 2 0);
      entryGoes 5 .active .lost s (windowDecision [] s) = true) ∧
    (let s := withEntry (entryOf .lost 0 2);
      entryGoes 5 .lost .active s (windowDecision [rxOf status] s) = true) := by decide +kernel

def call (stack : List (Nat × Nat)) (p : Option PendingEnrol) : RollCall := ⟨stack, p, 0, 0⟩
def calling (r : RollCall) (w : Window) : State := line (.window w) (cslOf (fun c => { c with roll := some r, roster := [] }) lead)
def answers (i : Nat) : LineRx := rxOf ⟨i, 1, .rollAnswer i⟩
def pending (n : Nat) : PendingEnrol := ⟨5, 2, 9, n⟩

theorem witness_RollCallDecided :
    (∀ stack ∈ [[], [(3, 4)]], (calling (call stack none) (.roll 2 9)).csl.roll = some (call stack none) ∧
      (calling (call stack none) (.roll 2 9)).csl.line = .window (.roll 2 9)) ∧
    (let s := calling (call [] none) (.roll 1 9);
      s.foreignTaken [] = none ∧ s.foreignTaken [garbled] = none ∧ s.foreignTaken [answers 5, answers 6] = none ∧
        s.foreignTaken [answers 5] = none ∧ rollOutcome s.ownIdentity 1 9 [] = .empty ∧
        rollOutcome s.ownIdentity 1 9 [garbled] = .garbled ∧ rollOutcome s.ownIdentity 1 9 [answers 5, answers 6] = .garbled ∧
        rollOutcome s.ownIdentity 1 9 [answers 5] = .clean 5 ∧ rollOutcome s.ownIdentity 1 9 [answers 1] = .clean s.ownIdentity ∧
        5 ≠ s.ownIdentity ∧ s.rosterEntry 5 = none ∧ s.csl.roster.length < 5 ∧ 1 < 9 ∧ 9 ≤ 9) ∧
    (let s := calling (call [] none) (.roll 9 9);
      s.csl.line = .window (.roll 9 9) ∧ s.csl.roll = some (call [] none) ∧ s.foreignTaken [garbled] = none ∧
        rollOutcome s.ownIdentity 9 9 [garbled] = .garbled ∧ 9 ≤ 9) ∧
    (cslOf (fun c => { c with roster := [entryOf .active 0 0] }) (calling (call [] none) (.roll 2 9))).rosterEntry 5 =
      some (entryOf .active 0 0) ∧
    5 ≤ (cslOf (fun c => { c with roster := List.replicate 5 { entryOf .active 0 0 with ident := 6 } }) (calling (call [] none) (.roll 2 9))).csl.roster.length ∧
    (∀ n ∈ [1, 2], let s := calling (call [] (some (pending n))) (.enrol 5);
      s.csl.line = .window (.enrol (pending n).ident) ∧ (call [] (some (pending n))).pendingEnrol = some (pending n) ∧
        enrolAcked s.ownIdentity 5 [rxOf ⟨5, 1, .enrolAck⟩] = true ∧ s.foreignTaken [rxOf ⟨5, 1, .enrolAck⟩] = none ∧
        enrolAcked s.ownIdentity 5 [] = false ∧ enrolAcked s.ownIdentity 5 [garbled] = false ∧ s.rosterEntry 5 = none) ∧
    (∀ st ∈ [EntryState.active, .lost], (cslOf (fun c => { c with roster := [entryOf st 0 0] })
      (calling (call [] (some (pending 1))) (.enrol 5))).rosterEntry 5 = some (entryOf st 0 0)) ∧
    ((pending 1).attempts + 1 < 3 ∧ 3 ≤ (pending 2).attempts + 1 ∧ 3 ≤ (pending 3).attempts) ∧
    (let s := calling (call [(3, 4)] (some (pending 2))) (.enrol 5);
      enrolExcluded s (enrolDecision [] s) = true) := by decide +kernel

/-- A foreign frame still arriving at the close of a window brings no conflict; one taken in it does (R106, R112). -/
theorem test_foreign_in_time :
    let late : LineRx := { rxOf ⟨9, 4, .release⟩ with inTime := false };
    (exchangeDecision [late] (withEntry (entryOf .active 0 0))).csl.conflict = false ∧
      ((exchangeDecision [late] (withEntry (entryOf .active 0 0))).rosterEntry 5).map (fun e => e.miss) = some 1 ∧
      (exchangeDecision [rxOf ⟨9, 4, .release⟩] (withEntry (entryOf .active 0 0))).csl.conflict = true := by decide +kernel

def foreign : ConsistFrame := ⟨9, 4, .release⟩

theorem witness_ConflictEntered :
    lead.powered = true ∧ lead.csl.role = .lead ∧ lead.csl.conflict = false ∧ lead.dir = false ∧
      cleanFrame (rxOf foreign) = some foreign ∧ foreign.body.leadOwned = true ∧ foreign.source ≠ lead.ownIdentity ∧
      lead.csl.line = .idle ∧ lead.csl.roll = none ∧ (withEntry (entryOf .active 2 0)).dir = false ∧
      (withEntry (entryOf .active 2 0)).csl.line = .window (.exchange 5 0) ∧
      (calling (call [] none) (.roll 2 9)).csl.roll = some (call [] none) ∧
      (calling (call [] (some (pending 2))) (.enrol 5)).csl.line = .window (.enrol 5) ∧
      (∀ s ∈ [withEntry (entryOf .active 2 0), calling (call [] none) (.roll 2 9), calling (call [] (some (pending 2))) (.enrol 5)],
        s.powered = true ∧ s.foreignTaken [garbled, rxOf foreign] = some foreign) ∧
      (calling (call [] none) (.roll 2 9)).csl.line = .window (.roll 2 9) ∧
      (calling (call [] (some (pending 2))) (.enrol 5)).csl.roll ≠ none := by decide +kernel

/-- A ROLL or ENROL window that took a foreign lead's frame ends in CONFLICT with the roll call ended (R106, R113). -/
theorem test_foreign_in_roll_call :
    (let t := rollDecision [rxOf foreign] (calling (call [(3, 4)] none) (.roll 2 9));
      t.csl.conflict = true ∧ t.csl.roll = none ∧ t.csl.line = .idle ∧ t.clp.notices.length = 2) ∧
    (let t := enrolDecision [garbled, rxOf foreign] (calling (call [] (some (pending 2))) (.enrol 5));
      t.csl.conflict = true ∧ t.csl.roll = none ∧ t.clp.notices.length = 2) := by decide +kernel

/-- A garbled range of one identity with nothing left on the stack is reported and ends the call (R122, R125). -/
theorem test_garbled_last_identity :
    let t := rollDecision [garbled] (calling (call [] none) (.roll 9 9));
    t.csl.roll = none ∧ t.clp.notices.length = 2 := by decide +kernel

def free : State := cslOf (fun c => { c with role := .trail, follow := some .waiting }) on

theorem witness_TrailReceives :
    (trail.powered = true ∧ trail.csl.role = .trail ∧ trail.dir = false ∧ trail.csl.enrolled = true ∧
      cleanFrame (rxOf ⟨9, 1, .share 3 10 0 0 false false false true⟩) =
        some ⟨trail.csl.leadId, trail.ownIdentity, .share 3 10 0 0 false false false true⟩) ∧
    (cleanFrame (rxOf ⟨9, Config.allUnits, .roll 1 1⟩) = some ⟨9, Config.allUnits, .roll 1 1⟩ ∧ free.csl.enrolled = false ∧
      1 ≤ free.ownIdentity ∧ free.ownIdentity ≤ 1) ∧
    (cleanFrame (rxOf ⟨9, Config.allUnits, .roll 2 7⟩) = some ⟨9, Config.allUnits, .roll 2 7⟩ ∧ free.ownIdentity < 2 ∧
      0 < free.ownIdentity) ∧
    (cleanFrame (rxOf ⟨9, 1, .enrol⟩) = some ⟨9, free.ownIdentity, .enrol⟩ ∧ trail.csl.leadId = 9) ∧
    (cleanFrame (rxOf ⟨8, 1, .enrol⟩) = some ⟨8, trail.ownIdentity, .enrol⟩ ∧ trail.csl.leadId ≠ 8) ∧
    (∀ dst ∈ [1, 4294967295], cleanFrame (rxOf ⟨9, dst, .release⟩) = some ⟨trail.csl.leadId, dst, .release⟩ ∧
      (dst = trail.ownIdentity ∨ dst = 4294967295)) ∧
    (trail.csl.follow = some .following ∧ trail.csl.silence = some 200) ∧
    (cslOf (fun c => { c with silence := some 205 }) trail).csl.silence = some 205 ∧
    (let s := cslOf (fun c => { c with follow := some .inLocal }) trail;
      s.csl.follow = some .inLocal ∧ s.es.consist = false ∧ s.es.latch = false ∧
      cleanFrame (rxOf ⟨9, 1, .share 3 10 0 0 true false false true⟩) =
        some ⟨s.csl.leadId, s.ownIdentity, .share 3 10 0 0 true false false true⟩) ∧
    ((latched 0 trail).es.latch = true ∧ (latched 0 trail).es.consist = false) ∧
    (esOf (fun e => { e with consist := true }) trail).es.consist = true := by decide +kernel

def blended (s : State) : State := bleOf (fun b => { b with blend := .blended }) s

theorem witness_RoleRequests :
    let off : ReqFrame := ⟨0x06#8, 0#8, [0#8]⟩;
    let ld : ReqFrame := ⟨0x06#8, 0#8, [1#8]⟩;
    let tr : ReqFrame := ⟨0x06#8, 0#8, [2#8]⟩;
    ((blended (moving on)).ble.blend = .blended ∧ ¬(moving on).am.vref < 5000 ∧ (blended (moving on)).ready off ∧
      (blended (moving on)).ready ld ∧ (blended (moving on)).ready tr) ∧
    on.ble.blend = .failsafe ∧ ((blended (still on)).am.known = true ∧ (blended (still on)).am.vref < 5000) ∧
    (∀ f ∈ [off, ld, tr], ∀ s ∈ [on, lead, trail], s.ready f) ∧
    on.csl.role = .offline ∧ lead.csl.role = .lead ∧ trail.csl.role = .trail ∧
    (let s := calling (call [] none) (.roll 2 9);
      (∀ f ∈ [off, tr], s.ready f) ∧ s.csl.role = .lead ∧ s.csl.roll = some (call [] none) ∧ s.ble.blend = .failsafe) ∧
    ((cslOf (fun c => { c with conflict := true }) lead).csl.conflict = true ∧
      (line (.sending aRelease (some (.enrol 5))) lead).csl.line = .sending aRelease (some (.enrol 5))) := by
  unfold State.ready; decide +kernel

/-- A lead with a roll call running that becomes TRAIL reports its end; a trail that becomes LEAD drops what it follows (R102). -/
theorem test_roles_left :
    (let t := setRole .trail (calling (call [] none) (.roll 2 9));
      t.csl.role = .trail ∧ t.csl.roll = none ∧ t.csl.line = .idle ∧
        t.clp.notices = [⟨0, .rollCallDone .complete 0 0⟩]) ∧
    (let t := setRole .lead (esOf (fun e => { e with shareFlag := some true })
        (bleOf (fun b => { b with follow := some ⟨50, 100, 0, false, true⟩ }) trail));
      t.csl.role = .lead ∧ t.ble.follow = none ∧ t.es.shareFlag = none ∧ t.csl.enrolled = false) := by decide +kernel

theorem witness_RosterRequests :
    let called : ReqFrame := ⟨0x07#8, 0#8, []⟩;
    let all : ReqFrame := ⟨0x09#8, 0#8, [255#8, 255#8, 255#8, 255#8]⟩;
    let five : ReqFrame := ⟨0x09#8, 0#8, [0#8, 0#8, 0#8, 5#8]⟩;
    let six : ReqFrame := ⟨0x09#8, 0#8, [0#8, 0#8, 0#8, 6#8]⟩;
    let roll := calling (call [] none) (.roll 2 9);
    let clash := cslOf (fun c => { c with conflict := true }) lead;
    (∀ f ∈ [called, ⟨0x08#8, 0#8, []⟩, all, five, six], ∀ s ∈ [on, lead, clash, roll, blended (moving lead)], s.ready f) ∧
    on.csl.role ≠ .lead ∧ clash.csl.conflict = true ∧ roll.csl.roll ≠ none ∧
    (lead.csl.role = .lead ∧ lead.csl.conflict = false ∧ lead.csl.roll = none) ∧
    ((blended (moving lead)).ble.blend = .blended ∧ ¬(moving lead).am.vref < 5000) ∧ lead.ble.blend = .failsafe ∧
    (rd32 six.payload 0 ≠ 4294967295 ∧ lead.rosterEntry (rd32 six.payload 0) = none) ∧
    rd32 all.payload 0 = 4294967295 ∧ lead.rosterEntry (rd32 five.payload 0) ≠ none := by unfold State.ready; decide +kernel

/-- The content of ROSTER_READ by role, on a lead with one entry with and without a last status and a pending enrolment (R118). -/
theorem witness_RosterContent :
    on.csl.role = .offline ∧ (trail.csl.role = .trail ∧ trail.csl.follow = some .following) ∧
    trail.rosterContent = [2#8, 1#8, 0#8, 0#8, 0#8, 9#8, BitVec.ofNat 8 (Follow.code .following)] ∧
    (let s := cslOf (fun c => { c with roster := [newEntry 6 2, entryOf .lost 3 1], enrolSeq := 2 })
        (calling (call [(1, 2)] (some (pending 1))) (.enrol 5));
      s.csl.role = .lead ∧ s.csl.roll ≠ none ∧
        (cslOf (fun c => { c with roster := [newEntry 6 2, entryOf .lost 3 1], enrolSeq := 2 }) s).rosterContent =
          [1#8, 0#8, 0#8, 0#8, 0#8, 0#8, 0#8, 2#8, 1#8, 1#8, 1#8, 0#8, 0#8, 0#8, 5#8, 1#8, 0#8, 0#8, 0#8, 0#8, 2#8] ++
          [0#8, 0#8, 0#8, 6#8, 0#8, 0#8, 0#8, 0#8, 0#8, 0#8, 2#8] ++ List.replicate 13 0#8 ++
          [0#8, 0#8, 0#8, 5#8, 1#8, 3#8, 1#8, 0#8, 0#8, 0#8, 1#8] ++ [1#8, 0#8, 10#8] ++ List.replicate 10 0#8) := by
  decide +kernel

/-! ## Witnesses: the control link -/

def queued (n : Nat) : State := clpOf (fun c => { c with queue := List.replicate n ⟨0x02#8, 0#8, []⟩ }) on

theorem witness_RequestReception :
    (queued 3).powered = true ∧ (queued 3).begun = true ∧ (queued 3).clp.receiver = [] ∧ (List.replicate 248 (0#8 : Byte)).length ≤ 248 ∧
    (queued 3).clp.queue.length < 4 ∧ 4 ≤ (queued 4).clp.queue.length ∧ (queued 4).clp.receiver = [] ∧
    ((1#8).toNat < 2 ∧ 250 < (251#8).toNat) := by decide +kernel

def spaced : RxChar := ⟨0x5A#8, false, false⟩
def late : RxChar := ⟨0x5A#8, true, true⟩

theorem witness_ReceiverAbandons :
    (∀ bs ∈ [[], [2#8], [250#8], 2#8 :: List.replicate 3 0#8, 250#8 :: List.replicate 251 0#8],
      bs = [] ∨ 2 ≤ rd8 bs 0 ∧ rd8 bs 0 ≤ 250 ∧ bs.length < rd8 bs 0 + 3) ∧
    spaced.gap = false ∧ spaced.stopOk = false ∧ late.gap = true ∧
    (∀ b ∈ [0#8, 1#8, 251#8, 255#8], rd8 [b] 0 < 2 ∨ 250 < rd8 [b] 0) ∧
    (let bs : List Byte := [2#8, 1#8, 0#8, 0#8, 0#8];
      2 ≤ rd8 bs 0 ∧ bs.length = rd8 bs 0 + 3 ∧ bs.drop (rd8 bs 0 + 1) ≠ wordBytes (crc16 (bs.take (rd8 bs 0 + 1)))) ∧
    (hunt (on.clp.receiver ++ [late, spaced])).bad = 1 ∧ (hunt (on.clp.receiver ++ [late])).bad = 0 ∧
    (hunt (on.clp.receiver ++ cleanChars (controlFrame 1#8 0#8 []))).frames ≠ [] ∧
    (hunt (on.clp.receiver ++ [late])).frames = [] := by decide +kernel

/-- A stop bit at space hunts again from the byte after the start byte, a gap from the late character (R177). -/
theorem test_receiver_resumes :
    let whole := cleanChars (controlFrame 1#8 0#8 []);
    hunt (cleanChars [0x5A#8, 0x5A#8] ++ late :: whole.drop 1) = ⟨[], [⟨1#8, 0#8, []⟩], 1⟩ ∧
      hunt (cleanChars [0x5A#8] ++ spaced :: whole) = ⟨[], [⟨1#8, 0#8, []⟩], 1⟩ := by decide +kernel

theorem witness_RequestFirstTests :
    let read : ReqFrame := ⟨0x03#8, 0#8, [1#8, 0#8]⟩;
    let none' : ReqFrame := ⟨0x03#8, 0#8, [30#8]⟩;
    on.powered = true ∧
    (∀ k ∈ [(0#8 : Byte), 23#8], let f : ReqFrame := ⟨k, 0#8, []⟩;
      requestOf (.requestUnknownKind k 0#8 []) = some (.unknownKind, f) ∧ rowOf f = .unknownKind ∧ on.takeable f = true ∧
        (f.kind.toNat < 1 ∨ 22 < f.kind.toNat)) ∧
    (requestOf (.configRead 0#8 [1#8, 0#8]) = some (.configRead, read) ∧ rowOf read = .configRead ∧ on.takeable read = true ∧
      1 ≤ read.kind.toNat ∧ read.kind.toNat ≤ 22 ∧ lengthAllowed read = false) ∧
    (rowOf none' = .configRead ∧ on.takeable none' = true ∧ lengthAllowed none' = true ∧ subcodesDefined none' = false) ∧
    (rowOf ⟨0x04#8, 0#8, [1#8]⟩ ≠ .configWrite ∧
      (clpOf (fun c => { c with held := true, queue := [read] }) on).takeable read = false) := by decide +kernel

theorem witness_ReadRequests :
    on.ready ⟨0x01#8, 0#8, []⟩ ∧ on.ready ⟨0x02#8, 0#8, []⟩ ∧ on.ready ⟨0x16#8, 0#8, []⟩ ∧
    (∀ n ∈ [(1#8 : Byte), 29#8], on.ready ⟨0x03#8, 0#8, [n]⟩ ∧ 1 ≤ n.toNat ∧ n.toNat ≤ 29 ∧ n ≠ 2#8) ∧
    (∀ n ∈ [(0#8 : Byte), 16#8], on.ready ⟨0x03#8, 0#8, [2#8, n]⟩ ∧ n.toNat ≤ 16) ∧
    on.ready ⟨0x10#8, 0#8, [0#8, 0#8, 0#8, 0#8]⟩ := by unfold State.ready; decide +kernel

/-- The record group of a STATUS with a record open and without one, and the sets equal or not (R184). -/
theorem witness_StatusContent :
    on.cap.record = none ∧
    ((capturing 14).cap.record = some openRec ∧ ((capturing 14).entry openRec.slot).record = some (record false false)) ∧
    (on.settingsDiffer = false ∧ (clpOf (fun c => { c with imageValid := false }) on).settingsDiffer = true) ∧
    (((capturing 14).statusContent 0).drop 65).take 8 = [2#8, 0#8, 0#8, 0#8, 7#8, BitVec.ofNat 8 (Source.code .hostMark), 0#8, 5#8] := by
  decide +kernel

/-- Closed records 100, 99, 98 and on in the slots 0, 1, 2 and on. -/
def many (n : Nat) : State := storeOf (fun x => { x with
  dir := (List.range n).map (fun k => (⟨.closed, some { record false false with number := 100 - k }⟩ : DirEntry)) ++ x.dir.drop n }) on

/-- RECORD_LIST: the more flag and the number in the first byte, then the records in ascending number from the list start (R158). -/
theorem test_record_list :
    (many 8).recordListContent 101 = [0#8] ∧
    ((many 8).recordListContent 0).take 5 = [64#8, 0#8, 0#8, 0#8, 93#8] ∧
    ((many 9).recordListContent 0).take 5 = [192#8, 0#8, 0#8, 0#8, 92#8] ∧
    ((many 9).recordListContent 99).take 5 = [16#8, 0#8, 0#8, 0#8, 99#8] := by decide +kernel

/-- The payload has the item's length, the request is ready, and its value is in range or not. -/
def writes (w : Byte × List Byte × Bool) : Bool :=
  let f : ReqFrame := ⟨0x04#8, 0#8, w.1 :: w.2.1⟩;
  lengthAllowed f && on.powered && on.takeable f &&
    (codeInRange w.1.toNat w.2.1 && itemInRange w.1.toNat (Settings.write w.1.toNat w.2.1 on.clp.working)) == w.2.2

theorem witness_ConfigWrites :
    (∀ w ∈ [(17#8, [1#8], true), (17#8, [10#8], true), (17#8, [0#8], false), (17#8, [11#8], false),
      (5#8, [1#8], true), (5#8, [2#8], false),
      (14#8, Config.defaults.dbCurve.flatMap (fun p => u16 p.1 ++ u16 p.2), true),
      (14#8, List.replicate 64 0#8, false), (26#8, [2#8, 0#8], true), (27#8, [0#8, 255#8, 255#8], true),
      (27#8, [1#8, 255#8, 255#8], false), (1#8, [0#8, 0#8, 0#8, 5#8], true),
      (1#8, [255#8, 255#8, 255#8, 255#8], false), (2#8, [0#8, 0#8, 1#8, 0#8], true),
      (2#8, [0#8, 0#8, 1#8, 32#8], false), (29#8, [0#8, 0#8, 0#8, 20#8], true),
      (29#8, [0#8, 0#8, 0#8, 0#8], true), (29#8, [0#8, 0#8, 0#8, 19#8], false)], writes w = true) ∧
    (on.csl.role = .offline ∧ lead.csl.role ≠ .offline ∧ lead.ready ⟨0x04#8, 0#8, [1#8, 0#8, 0#8, 0#8, 5#8]⟩) ∧
    (on.ble.blend = .failsafe ∧ (blended on).ble.blend ≠ .failsafe ∧ (blended on).ble.blend ≠ .released ∧
      (blended on).ready ⟨0x04#8, 0#8, [2#8, 0#8, 0#8, 1#8, 0#8]⟩) ∧
    ((clpOf (fun c => { c with reportIn := none }) on).clp.reportIn = none ∧ on.clp.reportIn ≠ none) := by
  unfold State.ready; decide +kernel

theorem witness_CommitRuns :
    on.ready ⟨0x05#8, 0#8, []⟩ ∧ (committing [17]).ready ⟨0x05#8, 0#8, []⟩ ∧ on.clp.commit = none ∧ (committing [17]).clp.commit ≠ none ∧
    on.commitList = [] ∧
    (clpOf (fun c => { c with working := { c.working with slideRel := 4 } }) on).commitList = [17] ∧
    (port (.configItem 17) (committing [17])).store.port = some (.configItem 17) ∧
    (port .configCheck (committing [])).store.port = some .configCheck := by unfold State.ready; decide +kernel

/-! ## Witnesses: the record store and the streams -/

def seven : List Byte := [0#8, 0#8, 0#8, 7#8]
def inState (st : SlotState) : State := entry0 ⟨st, some (record false false)⟩ on
/-- A frame of the stream is on the line. -/
def sent (k : Stream) : State := clpOf (fun c => { c with tx := some (.stream aFrame) }) (stream k (closed false))
def holding : State := clpOf (fun c => { c with held := true, queue := [⟨0x11#8, 0#8, seven ++ [0#8]⟩] }) (closed false)

theorem witness_RecordRequests :
    (∀ f ∈ [(⟨0x11#8, 0#8, seven ++ [0#8]⟩ : ReqFrame), ⟨0x11#8, 0#8, seven ++ [1#8]⟩, ⟨0x12#8, 0#8, seven⟩],
      ∀ s ∈ [on, closed false, closed true, inState .erasing, inState .capturing, inState .closing], s.ready f) ∧
    on.findRecord 7 = none ∧
    (closed false).findRecord 7 = some (0, .closed, record false false) ∧
    (closed true).findRecord 7 = some (0, .closed, record true false) ∧
    (∀ st ∈ [SlotState.erasing, .capturing, .closing], (inState st).findRecord 7 = some (0, st, record false false)) ∧
    (storeOf (fun x => { x with hostErase := some ⟨1, 6, true⟩ }) (closed false)).store.hostErase ≠ none ∧
    (closed false).store.hostErase = none ∧
    (holding.clp.held = true ∧ holding.clp.queue = ⟨0x11#8, 0#8, seven ++ [0#8]⟩ :: []) ∧
    (∀ k ∈ [DirKind.protect, .unprotect, .damaged],
      (port (.dir ⟨0, k⟩ (record true false)) holding).store.port = some (.dir ⟨0, k⟩ (record true false))) ∧
    (let s := port (.hostErase 0) (storeOf (fun x => { x with hostErase := some ⟨0, 7, false⟩ }) on);
      s.store.port = some (.hostErase 0) ∧ s.store.hostErase = some ⟨0, 7, false⟩) ∧
    (let s := stream running (closed false);
      s.ready ⟨0x12#8, 0#8, seven⟩ ∧ (s.rdu.get .s0).record = 7 ∧ (s.rdu.get .s0).state = .running ∧
        (s.rdu.get .s0).status = none ∧ (s.rdu.get .s1).record ≠ 7 ∧ s.streamOnLine .s0 = false ∧ (sent running).streamOnLine .s0 = true) ∧
    (∀ k ∈ [0, 1], (storeOf (fun x => { x with check := some ⟨k, 0, true⟩ }) (closed false)).store.check = some ⟨k, 0, true⟩) := by
  unfold State.ready; decide +kernel

/-- An accepted erase ends a stream of the record, withdraws the slot's directory writes and abandons its check (R161, R164,
R173). -/
theorem test_erase :
    let s := storeOf (fun x => { x with check := some ⟨0, 0, true⟩, dirQueue := [⟨0, .damaged⟩, ⟨1, .damaged⟩] })
      (stream running (closed false));
    let t := takeRequest .recordErase ⟨0x12#8, 0#8, seven⟩ serveRecordErase s;
    (t.rdu.get .s0).status = some .recordGone ∧ (t.rdu.get .s0).state = .complete ∧ t.store.check = none ∧
      t.store.dirQueue = [⟨1, .damaged⟩] ∧ (t.entry 0).state = .erasing ∧ t.store.hostErase = some ⟨0, 7, true⟩ := by
  decide +kernel

def opens (first last m o : Byte) : ReqFrame := ⟨0x13#8, 0#8, [0#8] ++ seven ++ [0#8, first, 0#8, last, m, o]⟩
theorem witness_StreamsRun :
    (∀ f ∈ [opens 0#8 4#8 0#8 0#8, opens 0#8 5#8 1#8 1#8, opens 1#8 0#8 0#8 0#8, opens 0#8 0#8 2#8 0#8, ⟨0x14#8, 0#8, [0#8]⟩,
        ⟨0x15#8, 0#8, [0#8]⟩, ⟨0x15#8, 0#8, [2#8]⟩],
      ∀ s ∈ [on, closed false, stream running (closed false)], s.ready f) ∧
    (stream running on).rdu.s0.state = .running ∧ (stream { running with state := .complete } on).rdu.s0.state = .complete ∧
    on.rdu.s0.state = .idle ∧ on.rdu.s1.state ≠ .running ∧
    on.findRecord 7 = none ∧ (inState .capturing).findRecord 7 = some (0, .capturing, record false false) ∧
    (0 ≤ 4 ∧ 4 < (record false false).blocks ∧ ¬5 < (record false false).blocks ∧ ¬1 ≤ 0) ∧
    (∀ used ∈ [true, false], (port (.streamRead .s0 0 1 used) (stream running on)).store.port = some (.streamRead .s0 0 1 used)) ∧
    ((sent running).clp.tx = some (.stream aFrame) ∧ aFrame.stream = .s0 ∧ running.status = none ∧
      ({ running with status := some .aborted } : Stream).status = some .aborted) ∧
    (let k := { running with stopAtTrigger := true, trigIndex := 0 };
      let x := { aFrame with blocks := [rawBlock] };
      k.stopAtTrigger = true ∧ x.index ≤ k.trigIndex ∧ k.trigIndex < x.index + x.blocks.length) ∧
    (running.stopAtTrigger = false ∧ (0 : Int) + 5 - 1 = running.last ∧ (0 : Int) + 4 - 1 ≠ running.last ∧
      ({ running with single := true } : Stream).single = true ∧ running.single = false) ∧
    (let r : Reply := ⟨0x96#8, 0#8, .ok, []⟩;
      (clpOf (fun c => { c with tx := some (.reply r) }) on).clp.tx = some (.reply r) ∧ r.isRestart = true) ∧
    (⟨0x81#8, 0#8, .ok, []⟩ : Reply).isRestart = false := by unfold State.ready; decide +kernel

/-- An abort completes a stream at once, or at the end of its frame on the line; one decided already stands (R173, R174). -/
theorem test_stream_decided :
    (let t := decideStream .s0 .aborted (port (.streamRead .s0 0 0 true) (stream running (closed false)));
      (t.rdu.get .s0).state = .complete ∧ (t.rdu.get .s0).next = -1 ∧ t.store.port = some (.streamRead .s0 0 0 false) ∧
        t.clp.notices = [⟨0, .streamDone .s0 7 .aborted (-1) 0⟩]) ∧
    (let t := decideStream .s0 .aborted (sent running);
      (t.rdu.get .s0).state = .running ∧ (t.rdu.get .s0).status = some .aborted ∧ t.clp.notices = []) ∧
    (let k : Stream := { running with status := some .recordGone };
      ((decideStream .s0 .aborted (sent k)).rdu.get .s0).status = some .recordGone ∧ (on.rdu.get .s0).state ≠ .running) := by
  decide +kernel

def scrubbing (ticks : Nat) (s : State) : State := storeOf (fun x => { x with scrubTicks := ticks }) s

theorem witness_ScrubberRuns :
    (scrubbing 399 on).store.scrubTicks < 400 ∧ 400 ≤ (scrubbing 400 on).store.scrubTicks ∧
    (storeOf (fun x => { x with check := some ⟨0, 0, false⟩ }) on).store.check = some ⟨0, 0, false⟩ ∧ on.store.check = none ∧
    (let s := scrubbing 400 (closed false);
      s.scrubSlot = some 0 ∧ (s.entry 0).record = some (record false false) ∧ (record false false).blocks ≠ 0) ∧
    (scrubbing 400 on).scrubSlot = none ∧
    (∀ used ∈ [true, false], (port (.scrubRead 0 0 used) (closed false)).store.port = some (.scrubRead 0 0 used)) ∧
    (0 + 1 < ((record false false).blocks + 3) / 4 ∧ ((record false false).blocks + 3) / 4 ≤ 1 + 1) ∧
    ((record false true).damaged = true ∧ (record false false).damaged = false ∧ (closed false).store.scrubLatch = false) ∧
    (let s := entry0 ⟨.closed, some { record false false with blocks := 0 }⟩ on;
      s.scrubSlot = some 0 ∧ (s.entry 0).record = some { record false false with blocks := 0 } ∧ s.store.scrubLatch = false) ∧
    (let s := storeOf (fun x => { x with scrubIndex := 1, check := none }) (closed false);
      s.scrubSlot = some 0 ∧ on.scrubSlot = none) ∧
    (storeOf (fun x => { x with scrubLatch := true }) (closed false)).store.scrubLatch = true := by decide +kernel

/-- A check of slot 0 with a request latched, and the record of `n` blocks that the next check finds in slot 1. -/
def latchedCheck (n : Nat) : State := storeOf (fun x => { x with
  check := some ⟨0, 0, true⟩, scrubLatch := true,
  dir := [⟨.erasing, none⟩, ⟨.closed, some { record false false with blocks := n }⟩] ++ x.dir.drop 2 }) on

theorem witness_ScrubAbandon :
    (∀ n ∈ [0, 5], let s := latchedCheck n;
      let u := storeOf (fun x => { x with check := none, scrubLatch := false }) s;
      s.store.check = some ⟨0, 0, true⟩ ∧ s.store.scrubLatch = true ∧ u.scrubSlot = some 1 ∧
        (u.entry 1).record = some { record false false with blocks := n }) ∧
    (storeOf (fun x => { x with check := some ⟨0, 0, true⟩, scrubLatch := true }) on).scrubSlot = none ∧
    (storeOf (fun x => { x with check := some ⟨0, 0, true⟩ }) on).store.scrubLatch = false := by decide +kernel

/-- An abandoned check gives way to the latched request's (R164, R162). -/
theorem test_scrub_abandoned :
    (scrubAbandon 0 (latchedCheck 5)).store.check = some ⟨1, 0, true⟩ ∧ (scrubAbandon 0 (latchedCheck 0)).store.check = none ∧
      (scrubAbandon 0 (latchedCheck 0)).store.scrubIndex = 2 ∧ (scrubAbandon 1 (latchedCheck 5)).store.check = some ⟨0, 0, true⟩ := by
  decide +kernel

/-- A bad read carries whatever bytes were read, in the length of the record's blocks (R171). -/
theorem test_bad_read : (asRead 0#24 [] (.bad [rawBlock])).map (fun b => b.body) = [255#8 :: List.replicate 16 0#8] := by
  decide +kernel

def restartReply : Reply := ⟨0x96#8, 0#8, .ok, []⟩
/-- The state in which the reply to RESTART is on the line. -/
def restarting (s : State) : State := clpOf (fun c => { c with tx := some (.reply restartReply) }) s
def aCommit : Commit := ⟨{ Config.defaults with preTrigger := 100 }, [24], 1, true⟩

theorem witness_RestartCompletesStore :
    (restarting on).powered = true ∧ (restarting on).clp.tx = some (.reply restartReply) ∧ restartReply.isRestart = true ∧
    (∀ slot ∈ [1, 47], (capturing 14).cap.record = some openRec ∧ openRec.slot ≠ slot ∧ (capturing 14).store.hostErase = none ∧
      (capturing 14).store.port ≠ some (.reclaimErase slot) ∧ (capturing 14).store.port ≠ some (.hostErase slot) ∧
      slot ∉ nothingBad.badEntries ∧ (capturing 14).nv.stored[slot]? ≠ some .erasing ∧
      (capturing 14).nv.stored[slot]? ≠ some .badCheck) ∧
    (∀ p ∈ [.page 0 1 [], .reclaimErase 0, .hostErase 0, .opening 0 (record false false), .dir ⟨0, .unprotect⟩ (record false false),
      .configItem 17, .configCheck, .scrubRead 0 0 true, .streamRead .s0 0 0 true], (port p on).store.port = some p) ∧
    on.store.port = none ∧ (clpOf (fun c => { c with commit := some aCommit }) on).clp.commit = some aCommit ∧ on.clp.commit = none ∧
    (on.entry 0).record = none ∧ ((closed true).entry 0).record = some (record true false) ∧
    on.cap.record = none ∧ (waiting 0).cap.state = .closing ∧
    ((capturing 14).cap.state ≠ .closing ∧ ((capturing 14).entry 0).record = some (record false false)) ∧
    ((entry0 ⟨.erasing, none⟩ (capturing 14)).entry openRec.slot).state = .erasing ∧
    ((entry0 ⟨.erasing, none⟩ (capturing 14)).entry openRec.slot).record = none ∧
    ((capturing 14).entry openRec.slot).state ≠ .erasing ∧
    (storeOf (fun x => { x with hostErase := some ⟨3, 7, true⟩ }) on).store.hostErase = some ⟨3, 7, true⟩ ∧
    on.store.hostErase = none := by decide +kernel

/-- RESTART in CAPTURING, with a page write of the record on the port that verifies and a commit in hand: the record is closed
INTERRUPTED with the page counted, the commit's item and the check are written (R148, R165, R192). -/
theorem test_restart_completes :
    let page : List SampleBlock := List.replicate 4 ⟨0, 0, [], on.summary, on.alsoRecorded, 0#8⟩;
    let s := restarting (port (.page 0 0 page) (clpOf (fun c => { c with commit := some aCommit }) (capturing 14)));
    let t := txFrameEnd ⟨true, nothingBad⟩ s;
    t.nv.stored[0]? = some (.closed { record false false with close := some .interrupted, blocks := 5 + 4 }) ∧
      pagesRead t.nv.pages 0 = some ⟨page, true⟩ ∧ t.nv.area = ⟨aCommit.snapshot, some aCommit.snapshot⟩ ∧
      t.clp.working = aCommit.snapshot := by decide +kernel

/-- An unprotect write that RESTART finishes clears the protection in the working entry (R160, R165). -/
theorem test_restart_unprotects :
    let s := port (.dir ⟨0, .unprotect⟩ (record false false)) (closed true);
    ((finishOperation true s).entry 0).record = some (record false false) := by decide +kernel

/-! ## Witnesses: when an event falls at a decision, and the predicates that the statements spell out -/

/-- A good frame in the cycle of counter 0 whose channels from 0 on hold `vs`, the rest 0. -/
def good (vs : List Nat) : CycleEnd :=
  let slots : List Word16 := 0#16 :: vs.map (BitVec.ofNat 16) ++ List.replicate (31 - vs.length) 0#16
  ⟨.frame 0 slots (crc16 (fieldBytes 0 slots)), ⟨0, 0, 0⟩, true⟩
/-- The state with its window open and the decision that closes it, before and after. -/
def around {α : Type} (d : CycleEnd) (s : State) (f : State → α) : α × α :=
  let s := flmOf (fun f => { f with phase := .window }) s
  (f s, f (fieldCycleDecision d s))
/-- Axle 1 against five axles at 30.00 km/h. -/
def axleAt (v : Nat) : CycleEnd := good [v, 3000, 3000, 3000, 3000, 3000]
def axleIs (r : AxleRec) : State := amOf (fun a => { a with known := true, vref := 300000 }) (axle1 (fun _ => r) (linked on))

theorem witness_EventRowsAtDecision : on.powered = true ∧
    around (good []) (runs .start 7 0) (fun s => s.flm.link) = (.start, .up) ∧
    around anyEnd (runs .degraded 0 2) (fun s => s.flm.link) = (.degraded, .lost) ∧
    around anyEnd (braked 849 (fun b => { b with below := some 195 })) (fun s => (s.ble.trucks.get .t1).shortfall) =
      (.normal, .shortfall) ∧
    around anyEnd (braked 1000 (fun b => { b with shortfall := .shortfall, clear := some 995 }))
      (fun s => ((s.ble.trucks.get .t1).shortfall, s.flm.link)) = ((.shortfall, .up), .normal, .degraded) ∧
    around anyEnd (braked 0 (fun b => { b with shortfall := .shortfall, duration := 4995 })) (fun s => (s.ble.trucks.get .t1).dbFault) =
      (false, true) ∧
    around (good [0, 0, 0, 0, 0, 0, 20]) (supervised .releasing 995 1 24)
      (fun s => ((s.tpc.get .t1).state, (s.tpc.get .t1).window, (s.tpc.get .t1).noProgress)) = ((.releasing, 995, 1), .releasing, 0, 2) ∧
    around (good [0, 0, 0, 0, 0, 0, 20]) (supervised .releasing 995 2 24)
      (fun s => ((s.tpc.get .t1).window, (s.tpc.get .t1).latch)) = ((995, .clear), 0, .noRelease) ∧
    around (axleAt 1000) (axleIs { AxleRec.boot with state := .suspect, confirm := 2 }) (fun s => (s.am.axles.get .a1).state) =
      (.suspect, .sliding) ∧
    around (axleAt 3000) (axleIs { AxleRec.boot with state := .recovery, recovery := 195 })
      (fun s => ((s.am.axles.get .a1).state, s.am.known)) = ((.recovery, true), .rolling, true) ∧
    around (axleAt 15001) (axleIs { AxleRec.boot with invalid := 2 }) (fun s => (s.am.axles.get .a1).state) = (.rolling, .excluded) ∧
    around (axleAt 3000) (axleIs { AxleRec.boot with state := .excluded, ret := 1995 })
      (fun s => ((s.am.axles.get .a1).state, s.flm.link)) = ((.excluded, .up), .rolling, .up) ∧
    ([(Correction.dumping, 2995, true), (.reapplyHold, 1495, false), (.settling, 995, false)].map (fun c =>
      around anyEnd (linked (if c.2.2 then sliding (correcting c.1 c.2.1 false) else correcting c.1 c.2.1 false))
        (fun s => ((s.am.trucks.get .t1).correction, s.flm.link)))) =
      [((.dumping, .up), .reapplyHold, .degraded), ((.reapplyHold, .up), .idle, .degraded), ((.settling, .up), .idle, .degraded)] := by
  decide +kernel
/-- The slots a capture may take: the lowest FREE one, else that of the lowest unprotected number; the last slot, and none. -/
theorem witness_SlotChoices :
    ([on, closed false, many 47, full false].map State.freeSlot = [some 0, some 1, some 47, none]) ∧
    ([on, closed false, closed true, many 3, full true].map State.reclaimSlot = [none, some (0, 7), none, some (2, 98), none]) ∧
    ((full false).entry 47).state = .closed ∧ (on.entry 47).state = .free := by decide +kernel

/-- The load's test at a good set, a bad check, a value out of range, and both (R189, log 12). -/
theorem witness_LoadFault :
    let area (w : Settings) (c : Option Settings) : ConfigArea := ⟨w, c⟩
    let w : Settings := Config.defaults
    let x : Settings := { w with slideRel := 11, reportInterval := 19 }
    loadFault nothingBad (area w (some w)) = none ∧ loadFault nothingBad (area w none) = some .badCheck ∧
      loadFault ⟨[], [], true⟩ (area w (some w)) = some .badCheck ∧ loadFault nothingBad (area x (some x)) = some (.outOfRange 17) ∧
      loadFault nothingBad (area x none) = some .badCheck := by decide +kernel

/-- What counts in C and K: entries of every kind, the own trucks, and the inputs of a FOLLOWING trail (R25, R28, R41). -/
theorem witness_Counted :
    let flagged (t1 failsafe : Bool) : Entry := { entryOf .active 0 0 with
      last := some ⟨10, 0, 0, 0, ⟨⟨false, false⟩, false, ⟨t1, false⟩, failsafe, false⟩, 0#8, 0⟩ }
    [entryOf .lost 0 0, ⟨5, .active, 0, 0, 1, none⟩, entryOf .active 0 0, flagged true false, flagged false true].map
      (fun e => (e.counted, e.airTrucks)) = [(0, 0), (0, 2), (10, 2), (10, 1), (10, 0)] ∧
    (on.ownAirTrucks = 2 ∧ (tpc1 (fun c => { c with state := .fault }) on).ownAirTrucks = 1) ∧
    (lead.leading = true ∧ lead.othersCapacity = 10 ∧ (cslOf (fun c => { c with conflict := true }) lead).othersCapacity = 0) ∧
    (followed.followInUse = followed.ble.follow ∧ followed.effectiveMaster = false ∧ followed.bail = false ∧
      (bleOf (fun b => { b with master := true }) followed).effectiveMaster = true) ∧
    ((chanIs 12 (valid 1) on).bail = true ∧ (chanIs 12 ⟨1, .invalid, 0⟩ on).bail = false) ∧
    (portion 7 1 0 = 0 ∧ portion 7 1 2 = 3) := by decide +kernel

/-- A latch inside a recompute, at 5 s of shortfall, with its notice (R38). -/
theorem test_db_fault_in_recompute :
    [4990, 4995].map (fun n =>
      let t := bleRecompute (braked 0 (fun b => { b with request := 10000, shortfall := .shortfall, duration := n }));
      ((t.ble.trucks.get .t1).dbFault, t.clp.notices.map (fun x => x.body), t.cap.state)) =
    [(false, [], .idle), (true, [.dbFault .t1 1000 0], .allocating)] := by decide +kernel

/-- Channel 1 after a decision in a state of supervision, under an air claim, at 20 kPa. -/
def judged (st : ChannelState) (kpa window count ref : Nat) : Tpc := shown (valid 20) (fun c =>
  { c with state := st, window := window, noProgress := count, progressRef := ref, claims := { c.claims with air := kpa } })

/-- Supervision inside a decision: a channel that goes on, its window judged at 1000 ms, and the third window without progress
(R53, R55, R56). -/
theorem witness_SupervisionInDecision :
    let seen (c : Tpc) : ChannelState × Nat × Nat × Nat × FaultLatch := (c.state, c.window, c.noProgress, c.progressRef, c.latch);
    [judged .applying 31 990 2 15, judged .applying 31 995 2 15, judged .applying 31 995 1 16, judged .applying 31 995 2 16].map seen =
      [(.applying, 995, 2, 15, .clear), (.applying, 0, 0, 20, .clear), (.applying, 0, 2, 20, .clear), (.fault, 0, 0, 0, .noApply)] ∧
    [judged .releasing 9 990 2 25, judged .releasing 9 995 2 25, judged .releasing 9 995 1 24, judged .releasing 9 995 2 24].map seen =
      [(.releasing, 995, 2, 25, .clear), (.releasing, 0, 0, 20, .clear), (.releasing, 0, 2, 20, .clear), (.fault, 0, 0, 0, .noRelease)] ∧
    [31, 9].map (fun kpa => (judged (if kpa = 31 then .applying else .releasing) kpa 0 0 20).target) = [31, 9] := by decide +kernel

/-- The third window without progress raises its notice and its trigger. -/
theorem test_channel_fault_in_decision :
    let t := tpcDecide .t1 (supervised .releasing 995 2 24);
    t.clp.notices.map (fun n => n.body) = [.channelFault .t1 .noRelease 0 20] ∧ t.cap.state = .allocating := by decide +kernel

/-- An axle that is EXCLUDED or whose speed is not VALID is no candidate (R63). -/
theorem test_candidates :
    (speeds on).candidates = [300000, 290000] ∧
    (speeds (axle1 (fun r => { r with state := .excluded }) on)).candidates = [290000] ∧
    (chanIs 0 ⟨3000, .stale, 1⟩ (chanIs 1 (valid 2900) on)).candidates = [290000] := by decide +kernel

/-- A dump at its bound and one before it, inside an update, with the notice of the first (R75). -/
theorem witness_ForcedReapplyInUpdate :
    [2990, 2995].map (fun n =>
      let t := correctionStep .t1 (moving (sliding (correcting .dumping n false)));
      ((t.am.trucks.get .t1).correction, (t.am.trucks.get .t1).persist, t.clp.notices.map (fun x => x.body), t.cap.state)) =
    [(.dumping, 0, [], .idle), (.reapplyHold, 1, [.slidePersist .t1 1 0 .unlimited], .allocating)] := by decide +kernel

/-- The end of a hold inside an update: nothing latched, a slide latched that is over, one latched or starting that goes on (R76). -/
theorem witness_HoldEndInUpdate :
    let ended (s : State) : Correction := ((correctionStep .t1 s).am.trucks.get .t1).correction;
    [ended (correcting .reapplyHold 1495 false), ended (correcting .reapplyHold 1495 true),
      ended (moving (sliding (correcting .reapplyHold 1495 true))), ended (moving (sliding (correcting .reapplyHold 1495 false))),
      ended (moving (sliding (correcting .reapplyHold 1490 true)))] = [.idle, .settling, .dumping, .dumping, .reapplyHold] := by
  decide +kernel

/-- What a lead sends next: the exchange of the first identity it still holds, with its share, then a ROLL of the top range or the
ENROL that is pending, while an opening is left; nothing with an empty stack, a RELEASE owed, or in CONFLICT (R104, R105, R121). -/
theorem witness_LineNext :
    let todo (ids : List Nat) (s : State) : State := cslOf (fun c => { c with todo := ids }) s;
    let rolls (stack : List (Nat × Nat)) (p : Option PendingEnrol) (n : Nat) (s : State) : State :=
      cslOf (fun c => { c with roll := some (call stack p), openings := n }) s;
    let sends (s : State) : LineJob × List Nat × Nat := ((lineNext s).csl.line, (lineNext s).csl.todo, (lineNext s).csl.openings);
    let share : ConsistFrame := ⟨1, 5, .share 0 10 0 0 false false false true⟩;
    sends (rolls [(2, 9)] none 4 (todo [6, 5, 7] lead)) = (.sending share (some (.exchange 5 0)), [7], 4) ∧
    sends (rolls [(2, 9)] none 4 (todo [6, 7] lead)) = (.sending ⟨1, 4294967295, .roll 2 9⟩ (some (.roll 2 9)), [], 3) ∧
    sends (rolls [(2, 9)] (some (pending 1)) 1 lead) = (.sending ⟨1, 5, .enrol⟩ (some (.enrol 5)), [], 0) ∧
    sends (rolls [(2, 9)] none 4 (todo [5] (bleOf (fun b => { b with offered := none }) lead))) =
      (.sending ⟨1, 4294967295, .roll 2 9⟩ (some (.roll 2 9)), [], 3) ∧
    sends (rolls [(2, 9)] none 0 (todo [6] lead)) = (.idle, [], 0) ∧ sends (rolls [] none 4 lead) = (.idle, [], 4) ∧
    sends (todo [6] lead) = (.idle, [], 0) ∧
    sends (cslOf (fun c => { c with releases := [⟨1, 5, false⟩] }) (todo [5] lead)) = (.idle, [5], 0) ∧
    sends (cslOf (fun c => { c with conflict := true }) (todo [5] lead)) = (.idle, [5], 0) := by decide +kernel

/-- A cycle with the BLE in FAILSAFE makes no exchange, and in a roll call it still has its openings; in CONFLICT it has none. -/
theorem test_cycle_without_exchange :
    let s := cslOf (fun c => { c with roll := some (call [(2, 9)] none) }) (bleOf (fun b => { b with offered := none }) lead);
    ((consistCycleStart s).csl.line, (consistCycleStart s).csl.openings) = (.sending ⟨1, 4294967295, .roll 2 9⟩ (some (.roll 2 9)), 3) ∧
    (let t := consistCycleStart (cslOf (fun c => { c with conflict := true }) s); (t.csl.line, t.csl.openings, t.csl.cycle)) =
      (.idle, 0, 0) := by decide +kernel

/-- An entry lost and one joined, each inside its decision with its notice, and the flag of the STATUS that the ES takes (R86, R107,
R108). -/
theorem witness_NoticesInExchange :
    let decided (e : Entry) (taken : List LineRx) : EntryState × List NoticeBody × List (Nat × Bool) :=
      let t := exchangeDecision taken (withEntry e)
      (((t.rosterEntry 5).map (fun x => x.state)).getD .lost, t.clp.notices.map (fun n => n.body), t.es.seen);
    [decided (entryOf .active 1 0) [], decided (entryOf .active 2 0) [], decided (entryOf .active 2 0) [rxOf status],
      decided (entryOf .lost 0 1) [rxOf status], decided (entryOf .lost 0 2) [rxOf status], decided (entryOf .lost 0 2) []] =
    [(.active, [], []), (.lost, [.unitLost 5 10 0], []), (.active, [], [(5, false)]), (.lost, [], []),
      (.active, [.unitJoined 5 10], [(5, false)]), (.lost, [], [])] := by decide +kernel

/-- The seven flags of a STATUS (R110). -/
theorem test_status_flags :
    let s := slide1 (fun k => { k with correction := .dumping }) (latched 0 (linked trail));
    s.statusFlags = ⟨⟨true, false⟩, true, ⟨false, false⟩, false, false⟩ ∧
    (cslOf (fun c => { c with follow := some .inLocal }) on).statusFlags = ⟨⟨false, false⟩, false, ⟨false, false⟩, true, true⟩ := by
  decide +kernel

/-- The lengths of a configuration request with an undefined item (R178, R197; log 24). -/
theorem witness_UndefinedItemLength :
    [1, 2, 3].map (fun n => lengthAllowed ⟨0x03#8, 0#8, List.replicate n 30#8⟩) = [true, true, false] ∧
    [1, 2, 65, 66].map (fun n => lengthAllowed ⟨0x04#8, 0#8, List.replicate n 30#8⟩) = [false, true, true, false] ∧
    [0x03#8, 0x04#8].map (fun k => subcodesDefined ⟨k, 0#8, [30#8, 30#8]⟩) = [false, false] ∧
    [0x03#8, 0x04#8].map (fun k => lengthAllowed ⟨k, 0#8, []⟩) = [false, false] := by decide +kernel

/-- Sub-codes at their bounds, and a kind with none. -/
theorem witness_Subcodes :
    [(0x03#8, [2#8, 16#8]), (0x03#8, [2#8, 17#8]), (0x06#8, [2#8]), (0x06#8, [3#8]), (0x13#8, [1#8]), (0x13#8, [2#8]),
      (0x11#8, [0#8, 0#8, 0#8, 0#8, 1#8]), (0x11#8, [0#8, 0#8, 0#8, 0#8, 2#8]), (0x0E#8, [9#8, 9#8])].map
        (fun p => subcodesDefined ⟨p.1, 0#8, p.2⟩) = [true, false, true, false, true, false, true, false, true] := by decide +kernel

/-- The slots that a SLOT_MAP mask names, in ascending channel order, and the enables that a TRIGGER_ENABLE mask names (R13, R134). -/
theorem witness_MaskedWrites :
    let w := Settings.write 2 [1#8, 0#8, 5#8, 20#8, 21#8, 22#8] Config.defaults;
    (w.slotMap = [20, 2, 21, 4, 5, 6, 7, 8, 9, 10, 11, 12, 13, 14, 15, 16, 22] ∧ Config.defaults.slotMap.length = 17 ∧
      itemInRange 2 w = true ∧ itemInRange 2 (Settings.write 2 [0#8, 0#8, 1#8, 2#8] Config.defaults) = false) ∧
    (Settings.write 26 [3#8, 0#8] { Config.defaults with triggerEnable := 255#8 }).triggerEnable = 253#8 := by decide +kernel

/-- A record is found in its slot by its number, and not found. -/
theorem witness_FindRecord :
    (many 48).findRecord 53 = some (47, .closed, { record false false with number := 53 }) ∧ (many 48).findRecord 52 = none := by
  decide +kernel

/-- The scrubber's slot: from the index on, around the 48 slots (R163). -/
theorem witness_ScrubSlot :
    [0, 1, 47].map (fun n => (storeOf (fun x => { x with scrubIndex := n }) (closed false)).scrubSlot) = [some 0, some 0, some 0] ∧
    [1, 47].map (fun n => (storeOf (fun x => { x with scrubIndex := n }) (full false)).scrubSlot) = [some 1, some 47] ∧
    on.scrubSlot = none := by decide +kernel

end Sys2Proof.Tests
end

/-! The decision of a truck pressure channel (R46): what its pieces set and leave, what the channel is after it, and the
statements of the table of R47 and of the supervision's resets (R53). -/
namespace Sys2Proof

@[simp] theorem PerTruck.get_set_self {α : Type} (p : PerTruck α) (k : Truck) (a : α) : (p.set k a).get k = a := by
  cases k <;> rfl

namespace Machine

/-! ## BC of a truck under the operations of a decision -/

theorem State.bc_eq_of_flm {s t : State} (h : t.flm = s.flm) (k : Truck) : t.bc k = s.bc k := by
  simp only [State.bc, State.chan, h]

@[simp] theorem setTpc_bc (s : State) (j k : Truck) (c : Tpc) : (s.setTpc j c).bc k = s.bc k := rfl

/-! ## Choosing the state (R47) and driving the valves (R50) -/

theorem Tpc.choose_of_faulty {bc : Channel} {c : Tpc} (h : c.latch ≠ .clear ∨ bc.validity = .invalid) :
    c.choose bc = .fault := if_pos h

theorem Tpc.choose_of_dumping {bc : Channel} {c : Tpc} (hl : c.latch = .clear) (hv : bc.validity ≠ .invalid)
    (hd : c.claims.slide = .dumping) : c.choose bc = .dumping := by
  simp [Tpc.choose, hl, hv, hd]

theorem Tpc.choose_of_stale {bc : Channel} {c : Tpc} (hl : c.latch = .clear) (hv : bc.validity = .stale)
    (hd : c.claims.slide ≠ .dumping) : c.choose bc = .lapped := by
  simp [Tpc.choose, hl, hv, hd]

/-- Lines 5 to 7 of R47: the deadband around the target. -/
theorem Tpc.choose_of_valid {bc : Channel} {c : Tpc} (hl : c.latch = .clear) (hv : bc.validity = .valid)
    (hd : c.claims.slide ≠ .dumping) :
    c.choose bc = if bc.value + 10 < c.target then .applying else if c.target + 10 < bc.value then .releasing else .lapped := by
  simp [Tpc.choose, hl, hv, hd]

/-- The drivers stand as the table of R50 has them for the channel's state. -/
def Tpc.Driven (c : Tpc) : Prop :=
  c.apply = (c.state == .applying) ∧ c.release = (c.state == .releasing || c.state == .dumping)

theorem Tpc.drive_driven (c : Tpc) : c.drive.Driven := ⟨rfl, rfl⟩

theorem Tpc.Driven.shows {c : Tpc} (h : c.Driven) {st : ChannelState} (hs : c.state = st) :
    c.state = st ∧ c.apply = (st == .applying) ∧ c.release = (st == .releasing || st == .dumping) := by
  subst hs
  exact ⟨rfl, h⟩

/-! ## Supervision within a decision (R53) -/

/-- Supervision timer, progress reference and no-progress count stand at 0. -/
def Tpc.Unsupervised (c : Tpc) : Prop := c.window = 0 ∧ c.progressRef = 0 ∧ c.noProgress = 0

theorem Tpc.superviseOff_unsupervised (c : Tpc) : c.superviseOff.Unsupervised := ⟨rfl, rfl, rfl⟩

theorem ChannelState.moving_iff (st : ChannelState) :
    ChannelState.moving st = true ↔ st = .applying ∨ st = .releasing := by
  simp [ChannelState.moving]

theorem Tpc.supervise_of_not_moving {c : Tpc} (h : ChannelState.moving c.state = false) (before : ChannelState) (bc : Nat) :
    c.supervise before bc = c.superviseOff := by
  simp [Tpc.supervise, h]

theorem Tpc.supervise_of_entry {c : Tpc} {before : ChannelState} (h : ChannelState.moving c.state = true)
    (hne : c.state ≠ before) (bc : Nat) :
    c.supervise before bc = { c with window := 0, progressRef := bc, noProgress := 0 } := by
  simp [Tpc.supervise, h, hne]

/-- Supervision writes its own three fields and no other. -/
theorem Tpc.supervise_frame (before : ChannelState) (bc : Nat) (c : Tpc) :
    ∃ w r n, c.supervise before bc = { c with window := w, progressRef := r, noProgress := n } := by
  unfold Tpc.supervise
  split
  · exact ⟨0, 0, 0, rfl⟩
  · split
    · exact ⟨c.window + 5, c.progressRef, c.noProgress, rfl⟩
    · exact ⟨0, bc, 0, rfl⟩

/-! ## Steps 1 to 3 of a decision -/

/-- The channel after steps 1 and 2 of a decision: sensor fault, settle ramp and target. -/
def Tpc.aimed (w : Settings) (bc : Channel) (c : Tpc) : Tpc :=
  let faulty := c.latch != .clear || bc.validity == .invalid
  let d := { c with sensorFault := bc.validity == Validity.invalid, ramp := c.rampNext faulty bc.value }
  { d with target := d.targetOf w.emergPressure, slideRead := c.claims.slide }

theorem Tpc.decide_eq (w : Settings) (bc : Channel) (c : Tpc) :
    c.decide w bc = Tpc.supervise c.state bc.value (Tpc.drive { c.aimed w bc with state := (c.aimed w bc).choose bc }) := rfl

section Decide
variable (w : Settings) (bc : Channel) (c : Tpc)

theorem Tpc.decide_frame : ∃ win r n, c.decide w bc =
    { Tpc.drive { c.aimed w bc with state := (c.aimed w bc).choose bc } with window := win, progressRef := r, noProgress := n } :=
  Tpc.supervise_frame ..

@[simp] theorem Tpc.decide_latch : (c.decide w bc).latch = c.latch := by
  obtain ⟨_, _, _, h⟩ := c.decide_frame w bc
  rw [h]; rfl

@[simp] theorem Tpc.decide_claims : (c.decide w bc).claims = c.claims := by
  obtain ⟨_, _, _, h⟩ := c.decide_frame w bc
  rw [h]; rfl

/-- The state is that of R47 for the target of the same decision. -/
theorem Tpc.decide_state : (c.decide w bc).state = (c.decide w bc).choose bc := by
  obtain ⟨_, _, _, h⟩ := c.decide_frame w bc
  rw [h]; rfl

theorem Tpc.decide_driven : (c.decide w bc).Driven := by
  obtain ⟨_, _, _, h⟩ := c.decide_frame w bc
  rw [h]; exact Tpc.drive_driven _

theorem Tpc.decide_state_chosen : (c.decide w bc).state = (c.aimed w bc).choose bc := by
  obtain ⟨_, _, _, h⟩ := c.decide_frame w bc
  rw [h]; rfl

variable {w bc c}

theorem Tpc.decide_unsupervised (h : ChannelState.moving (c.decide w bc).state = false) :
    (c.decide w bc).Unsupervised := by
  rw [Tpc.decide_state_chosen] at h
  rw [Tpc.decide_eq, Tpc.supervise_of_not_moving h]
  exact Tpc.superviseOff_unsupervised _

theorem Tpc.decide_of_entry (h : ChannelState.moving (c.decide w bc).state = true) (hne : (c.decide w bc).state ≠ c.state) :
    (c.decide w bc).window = 0 ∧ (c.decide w bc).progressRef = bc.value ∧ (c.decide w bc).noProgress = 0 := by
  rw [Tpc.decide_state_chosen] at h hne
  rw [Tpc.decide_eq, Tpc.supervise_of_entry h hne]
  exact ⟨rfl, rfl, rfl⟩

end Decide

/-! ## The end of a decision: window end and fault latch (R55, R56) -/

/-- A window end writes the three fields of the supervision and no other. -/
theorem Tpc.windowEnd_frame (bc : Nat) (c : Tpc) :
    ∃ w r n, c.windowEnd bc = { c with window := w, progressRef := r, noProgress := n } := by
  unfold Tpc.windowEnd
  split
  · exact ⟨0, bc, _, rfl⟩
  · exact ⟨c.window, c.progressRef, c.noProgress, rfl⟩

@[simp] theorem Tpc.windowEnd_state (bc : Nat) (c : Tpc) : (c.windowEnd bc).state = c.state := by
  obtain ⟨_, _, _, h⟩ := c.windowEnd_frame bc
  rw [h]

@[simp] theorem Tpc.windowEnd_latch (bc : Nat) (c : Tpc) : (c.windowEnd bc).latch = c.latch := by
  obtain ⟨_, _, _, h⟩ := c.windowEnd_frame bc
  rw [h]

@[simp] theorem Tpc.windowEnd_target (bc : Nat) (c : Tpc) : (c.windowEnd bc).target = c.target := by
  obtain ⟨_, _, _, h⟩ := c.windowEnd_frame bc
  rw [h]

theorem Tpc.windowEnd_driven {bc : Nat} {c : Tpc} (h : c.Driven) : (c.windowEnd bc).Driven := by
  obtain ⟨_, _, _, hw⟩ := c.windowEnd_frame bc
  rw [hw]; exact h

theorem Tpc.windowEnd_of_not_moving {c : Tpc} (h : ChannelState.moving c.state = false) (bc : Nat) : c.windowEnd bc = c := by
  simp [Tpc.windowEnd, Tpc.windowDue, h]

theorem Tpc.windowEnd_of_fresh {c : Tpc} (h : c.window = 0) (bc : Nat) : c.windowEnd bc = c := by
  simp [Tpc.windowEnd, Tpc.windowDue, h]

theorem Tpc.latchFault_latch (c : Tpc) : c.latchFault.latch ≠ .clear := by
  unfold Tpc.latchFault
  dsimp only
  split <;> decide

/-- The channel after its window end and the latch of a fault that is then due. -/
def Tpc.conclude (bc : Nat) (c : Tpc) : Tpc :=
  if (c.windowEnd bc).faultDue then (c.windowEnd bc).latchFault else c.windowEnd bc

/-- A decision ends with the window's end alone, or with the latch of a fault on a channel in APPLYING or RELEASING. -/
theorem Tpc.conclude_cases (bc : Nat) (c : Tpc) :
    c.conclude bc = c.windowEnd bc ∨
    (ChannelState.moving c.state = true ∧ c.conclude bc = (c.windowEnd bc).latchFault) := by
  unfold Tpc.conclude
  split
  case isTrue due =>
    simp only [Tpc.faultDue, Bool.and_eq_true, Tpc.windowEnd_state] at due
    obtain ⟨⟨moves, -⟩, -⟩ := due
    exact .inr ⟨moves, rfl⟩
  case isFalse => exact .inl rfl

theorem Tpc.conclude_of_not_moving {c : Tpc} (h : ChannelState.moving c.state = false) (bc : Nat) : c.conclude bc = c := by
  obtain hc | ⟨hm, -⟩ := c.conclude_cases bc
  · rw [hc, Tpc.windowEnd_of_not_moving h]
  · exact absurd hm (by simp [h])

/-- Where the fault latch stands clear after it, the end of a decision has written the supervision alone. -/
theorem Tpc.conclude_of_clear {bc : Nat} {c : Tpc} (h : (c.conclude bc).latch = .clear) :
    c.conclude bc = c.windowEnd bc := by
  obtain hc | ⟨-, hc⟩ := c.conclude_cases bc
  · exact hc
  · exact absurd (hc ▸ h) (Tpc.latchFault_latch _)

theorem Tpc.conclude_keeps_of_clear {bc : Nat} {c : Tpc} (h : (c.conclude bc).latch = .clear) :
    (c.conclude bc).state = c.state ∧ (c.conclude bc).target = c.target := by
  rw [Tpc.conclude_of_clear h]
  exact ⟨Tpc.windowEnd_state .., Tpc.windowEnd_target ..⟩

/-- A fault that latches at the end of a decision puts the channel in FAULT (R56). -/
theorem Tpc.conclude_state_of_latch {bc : Nat} {c : Tpc} (hl : c.latch = .clear) (h : (c.conclude bc).latch ≠ .clear) :
    (c.conclude bc).state = .fault := by
  obtain hc | ⟨-, hc⟩ := c.conclude_cases bc
  · rw [hc, Tpc.windowEnd_latch] at h
    exact absurd hl h
  · rw [hc]; rfl

theorem Tpc.conclude_driven {bc : Nat} {c : Tpc} (h : c.Driven) : (c.conclude bc).Driven := by
  obtain hc | ⟨-, hc⟩ := c.conclude_cases bc
  · rw [hc]; exact Tpc.windowEnd_driven h
  · rw [hc]; exact ⟨rfl, rfl⟩

/-! ## The decision as a whole -/

theorem sensorFaultEntry_flm (k : Truck) (before : ChannelState) (s : State) : (sensorFaultEntry k before s).flm = s.flm := by
  unfold sensorFaultEntry; split <;> simp

theorem sensorFaultEntry_tpc (k : Truck) (before : ChannelState) (s : State) : (sensorFaultEntry k before s).tpc = s.tpc := by
  unfold sensorFaultEntry; split <;> simp

theorem windowEnd_get (k : Truck) (s : State) :
    (windowEnd k s).tpc.get k = (s.tpc.get k).windowEnd (s.bc k).value := by
  simp [windowEnd]

theorem latchChannelFault_get (k : Truck) (s : State) :
    (latchChannelFault k s).tpc.get k = if (s.tpc.get k).faultDue then (s.tpc.get k).latchFault else s.tpc.get k := by
  unfold latchChannelFault
  dsimp only
  split <;> simp

/-- A channel's own end of a decision, whatever notices and triggers the decision has raised before it. -/
theorem latch_windowEnd_get (k : Truck) (s : State) :
    (latchChannelFault k (windowEnd k s)).tpc.get k = (s.tpc.get k).conclude (s.bc k).value := by
  rw [latchChannelFault_get, windowEnd_get]
  rfl

section Whole
variable {k : Truck} {s : State}

/-- With the link START or LOST the channel is OFF (R59). -/
theorem tpcDecide_get_unconnected (h : LinkState.connected s.flm.link = false) :
    (tpcDecide k s).tpc.get k = (s.tpc.get k).off (s.bc k).validity := by
  simp [tpcDecide, h]

/-- With the link UP or DEGRADED the channel goes through its decision and the end of it (R46, R55, R56). -/
theorem tpcDecide_get_connected (h : LinkState.connected s.flm.link = true) :
    (tpcDecide k s).tpc.get k = ((s.tpc.get k).decide s.clp.working (s.bc k)).conclude (s.bc k).value := by
  simp only [tpcDecide, h, if_true]
  rw [latch_windowEnd_get, sensorFaultEntry_tpc, State.bc_eq_of_flm (sensorFaultEntry_flm ..)]
  simp

/-- After every decision the drivers follow the channel's state (R50). -/
theorem tpcDecide_driven (k : Truck) (s : State) : ((tpcDecide k s).tpc.get k).Driven := by
  cases h : LinkState.connected s.flm.link with
  | false => rw [tpcDecide_get_unconnected h]; exact ⟨rfl, rfl⟩
  | true => rw [tpcDecide_get_connected h]; exact Tpc.conclude_driven (Tpc.decide_driven ..)

/-- A decision whose choice by R47 is neither APPLYING nor RELEASING ends in it. -/
theorem tpcDecide_state_of_choose {st : ChannelState} (h : LinkState.connected s.flm.link = true)
    (hc : ((s.tpc.get k).decide s.clp.working (s.bc k)).choose (s.bc k) = st) (hm : ChannelState.moving st = false) :
    ((tpcDecide k s).tpc.get k).state = st := by
  rw [← Tpc.decide_state] at hc
  rw [tpcDecide_get_connected h, Tpc.conclude_of_not_moving (hc ▸ hm), hc]

/-- Where no fault latches, a VALID BC is held against the target of the decision with a deadband of 10 kPa (R47, R50). -/
theorem tpcDecide_state_of_valid (h : LinkState.connected s.flm.link = true) (hl : (s.tpc.get k).latch = .clear)
    (hv : (s.bc k).validity = .valid) (hd : (s.tpc.get k).claims.slide ≠ .dumping)
    (hn : ((tpcDecide k s).tpc.get k).latch = .clear) :
    ((tpcDecide k s).tpc.get k).state =
      if (s.bc k).value + 10 < ((tpcDecide k s).tpc.get k).target then .applying
      else if ((tpcDecide k s).tpc.get k).target + 10 < (s.bc k).value then .releasing else .lapped := by
  rw [tpcDecide_get_connected h] at hn ⊢
  obtain ⟨hs, ht⟩ := Tpc.conclude_keeps_of_clear hn
  rw [hs, ht, Tpc.decide_state, Tpc.choose_of_valid (by simpa using hl) hv (by simpa using hd)]

theorem tpcDecide_state_of_latch (h : LinkState.connected s.flm.link = true) (hl : (s.tpc.get k).latch = .clear)
    (hn : ((tpcDecide k s).tpc.get k).latch ≠ .clear) : ((tpcDecide k s).tpc.get k).state = .fault := by
  rw [tpcDecide_get_connected h] at hn ⊢
  exact Tpc.conclude_state_of_latch (by simpa using hl) hn

theorem tpcDecide_unsupervised (hm : ChannelState.moving ((tpcDecide k s).tpc.get k).state = false) :
    ((tpcDecide k s).tpc.get k).Unsupervised := by
  cases h : LinkState.connected s.flm.link with
  | false => rw [tpcDecide_get_unconnected h]; exact ⟨rfl, rfl, rfl⟩
  | true =>
    rw [tpcDecide_get_connected h] at hm ⊢
    obtain hc | ⟨-, hc⟩ := Tpc.conclude_cases (s.bc k).value ((s.tpc.get k).decide s.clp.working (s.bc k))
    · rw [hc, Tpc.windowEnd_state] at hm
      rw [Tpc.conclude_of_not_moving hm]
      exact Tpc.decide_unsupervised hm
    · rw [hc]; exact ⟨rfl, rfl, rfl⟩

/-- A decision that enters APPLYING or RELEASING takes BC as the reference and starts the window from 0 (R53). -/
theorem tpcDecide_of_entry (hm : ChannelState.moving ((tpcDecide k s).tpc.get k).state = true)
    (hne : ((tpcDecide k s).tpc.get k).state ≠ (s.tpc.get k).state) :
    ((tpcDecide k s).tpc.get k).window = 0 ∧ ((tpcDecide k s).tpc.get k).progressRef = (s.bc k).value ∧
      ((tpcDecide k s).tpc.get k).noProgress = 0 := by
  cases h : LinkState.connected s.flm.link with
  | false => rw [tpcDecide_get_unconnected h] at hm; exact absurd hm (by simp [Tpc.off, ChannelState.moving])
  | true =>
    rw [tpcDecide_get_connected h] at hm hne ⊢
    obtain hc | ⟨-, hc⟩ := Tpc.conclude_cases (s.bc k).value ((s.tpc.get k).decide s.clp.working (s.bc k))
    · rw [hc, Tpc.windowEnd_state] at hm hne
      obtain ⟨window, ref, count⟩ := Tpc.decide_of_entry hm hne
      rw [hc, Tpc.windowEnd_of_fresh window]
      exact ⟨window, ref, count⟩
    · rw [hc] at hm; exact absurd hm (by simp [Tpc.latchFault, ChannelState.moving])

end Whole

/-! ## The statements -/

/-- Settles O26: each line of R47 by the choice that the decision makes, the drivers by R50. -/
theorem channelStateTable : Obligations.ChannelStateTable := by
  intro k s c bc d shows
  have driven : d.Driven := tpcDecide_driven k s
  refine ⟨fun off => ?_, fun on => ⟨fun faulty => ?_, fun clear valid dump => ?_, fun clear stale noDump => ?_,
    fun clear valid noDump stays => ?_, fun clear latched => ?_⟩⟩
  · have state : d.state = .off := congrArg Tpc.state (tpcDecide_get_unconnected off)
    exact driven.shows state
  · exact driven.shows (tpcDecide_state_of_choose on (Tpc.choose_of_faulty (by rw [Tpc.decide_latch]; exact faulty)) rfl)
  · exact driven.shows
      (tpcDecide_state_of_choose on (Tpc.choose_of_dumping (by simpa using clear) valid (by simpa using dump)) rfl)
  · exact driven.shows
      (tpcDecide_state_of_choose on (Tpc.choose_of_stale (by simpa using clear) stale (by simpa using noDump)) rfl)
  · have deadband : d.state = if bc.value + 10 < d.target then .applying else if d.target + 10 < bc.value then .releasing
        else .lapped := tpcDecide_state_of_valid on clear valid noDump stays
    refine ⟨fun below => driven.shows ?_, fun above => driven.shows ?_, fun low high => driven.shows ?_⟩
    · rw [deadband, if_pos below]
    · rw [deadband, if_neg (by omega), if_pos above]
    · rw [deadband, if_neg (by omega), if_neg (by omega)]
  · exact driven.shows (tpcDecide_state_of_latch on clear latched)

/-- Settles O28: outside APPLYING and RELEASING supervision is off, and an entry to either starts it afresh. -/
theorem supervisionReset : Obligations.SupervisionReset := by
  intro k s c d
  refine ⟨fun noApply noRelease => tpcDecide_unsupervised ?_, fun moves changed => ?_⟩
  · exact Bool.eq_false_iff.mpr fun moves => ((ChannelState.moving_iff _).mp moves).elim noApply noRelease
  · exact tpcDecide_of_entry ((ChannelState.moving_iff _).mpr moves) changed

end Machine
end Sys2Proof

/-! The ES update (R83): what an entry, a repeat cause and the exit step do to the ES and to the CSL, the four outcomes of the
cause step, and the statement of the pipe-rate test and its flag (R84). -/
namespace Sys2Proof.Machine

/-! ## The pipe-rate test (R84) -/

theorem pipeRateTest_iff (h : List (Nat × Validity)) (now : Channel) : pipeRateTest h now = true ↔
    h.length = 20 ∧ (∀ e ∈ h, e.2 = .valid) ∧ now.validity = .valid ∧ ∃ e ∈ h, now.value + 6 ≤ e.1 := by
  simp only [pipeRateTest, Bool.and_eq_true, decide_eq_true_eq, beq_iff_eq, List.all_eq_true, List.any_eq_true, and_assoc]

/-! ## Entry and repeat cause (R88, R89): the ES and the CSL after them -/

section Frames
variable (cause : EntryCause) (was now : Bool) (s : State)

@[simp] theorem emergencyEnter_es : (emergencyEnter cause s).es =
    { s.es with latch := true, cause := cause, entryTime := some s.time, held := 0 } := by
  simp only [emergencyEnter, trigger_es, raise_es]

@[simp] theorem emergencyEnter_csl : (emergencyEnter cause s).csl = s.csl := by
  simp only [emergencyEnter, trigger_csl, raise_csl]

@[simp] theorem repeatCause_es : (repeatCause was now s).es = s.es := by
  unfold repeatCause
  split
  · exact trigger_es ..
  · rfl

@[simp] theorem repeatCause_csl : (repeatCause was now s).csl = s.csl := by
  unfold repeatCause
  split
  · exact trigger_csl ..
  · rfl

end Frames

/-! ## The cause step (steps 2 and 3 of R83) -/

/-- Step 2 of R83 alone: both flags set to the outcome of their tests. -/
def testStep (s : State) : State :=
  { s with es := { s.es with pipeRate := pipeRateTest s.es.history s.pipe, pipeLow := pipeLowTest s.es.charged s.pipe } }

/-- After the tests the cause step raises the repeat causes of a set latch, or enters, or does nothing. -/
theorem causeStep_cases (s : State) :
    (s.es.latch = true ∧ causeStep s = repeatCause s.es.pipeLow (testStep s).es.pipeLow
      (repeatCause s.es.pipeRate (testStep s).es.pipeRate (testStep s))) ∨
    (s.es.latch = false ∧ (testStep s).es.pipeRate = true ∧ causeStep s = emergencyEnter .pipeRate (testStep s)) ∨
    (s.es.latch = false ∧ (testStep s).es.pipeRate = false ∧ (testStep s).es.pipeLow = true ∧
      causeStep s = emergencyEnter .pipeLow (testStep s)) ∨
    (s.es.latch = false ∧ (testStep s).es.pipeRate = false ∧ (testStep s).es.pipeLow = false ∧
      causeStep s = testStep s) := by
  have branches : causeStep s =
      if s.es.latch then repeatCause s.es.pipeLow (testStep s).es.pipeLow
        (repeatCause s.es.pipeRate (testStep s).es.pipeRate (testStep s))
      else if (testStep s).es.pipeRate then emergencyEnter .pipeRate (testStep s)
      else if (testStep s).es.pipeLow then emergencyEnter .pipeLow (testStep s)
      else testStep s := rfl
  rw [branches]
  cases s.es.latch with
  | true => exact .inl ⟨rfl, rfl⟩
  | false =>
    cases (testStep s).es.pipeRate with
    | true => exact .inr (.inl ⟨rfl, rfl, rfl⟩)
    | false =>
      cases (testStep s).es.pipeLow with
      | true => exact .inr (.inr (.inl ⟨rfl, rfl, rfl, rfl⟩))
      | false => exact .inr (.inr (.inr ⟨rfl, rfl, rfl, rfl⟩))

/-- Whatever the cause step does after the tests, the PIPE_RATE flag stays as the test set it. -/
theorem causeStep_pipeRate (s : State) : (causeStep s).es.pipeRate = pipeRateTest s.es.history s.pipe := by
  obtain ⟨-, h⟩ | ⟨-, -, h⟩ | ⟨-, -, -, h⟩ | ⟨-, -, -, h⟩ := causeStep_cases s <;> simp [h, testStep]

@[simp] theorem causeStep_csl (s : State) : (causeStep s).csl = s.csl := by
  obtain ⟨-, h⟩ | ⟨-, -, h⟩ | ⟨-, -, -, h⟩ | ⟨-, -, -, h⟩ := causeStep_cases s <;> simp [h, testStep]

/-! ## The exit step and the whole update -/

theorem State.following_of_csl {s t : State} (h : t.csl = s.csl) : t.following = s.following := by
  simp only [State.following, h]

/-- Only a FOLLOWING trail leaves emergency at an update (R93). -/
theorem exitStep_of_not_following {s : State} (h : s.following = false) : exitStep s = s := by
  simp [exitStep, State.trailExit, h]

/-- A unit that does not follow keeps, to the update's end, the flag that the cause step set. -/
theorem esUpdate_pipeRate {s : State} (h : s.following = false) :
    (esUpdate s).es.pipeRate = pipeRateTest s.es.history s.pipe := by
  have stays : (causeStep (chargedStep s)).following = false :=
    (State.following_of_csl (causeStep_csl (chargedStep s))).trans h
  calc (esUpdate s).es.pipeRate
      = (exitStep (causeStep (chargedStep s))).es.pipeRate := rfl
    _ = (causeStep (chargedStep s)).es.pipeRate := by rw [exitStep_of_not_following stays]
    _ = pipeRateTest s.es.history s.pipe := causeStep_pipeRate (chargedStep s)

/-! ## The statement -/

/-- Settles O38: the test by its four conditions, and the flag at the cause step and at the end of an update. -/
theorem pipeRateTest_holds : Obligations.PipeRateTest :=
  ⟨pipeRateTest_iff, causeStep_pipeRate, fun _ => esUpdate_pipeRate⟩

end Sys2Proof.Machine

/-! What one step of the machine is, and the three invariants (valves never both driven, pages in canonical form, lists within
their bounds): each operation keeps all three, so each command does, so each step does. -/
namespace Sys2Proof.Machine

/-! ## One step -/

/-- Settles O1. -/
theorem stepRunsFrontCommand : Obligations.StepRunsFrontCommand := by
  intro c rest s h
  simp only [step, h]

/-- Without power a command other than POWER_ON leaves the state (log 9). -/
theorem exec_unpowered {c : Instr} {s : State} (h : s.powered = false) (hc : ∀ f, c ≠ .powerOn f) :
    exec c s = .next s := by
  cases c
  case powerOn f => exact absurd rfl (hc f)
  case powerLoss c => simp [exec, execPowerLoss, powerLoss, h]
  all_goals exact act_unpowered s _ h

/-- Settles O2. -/
theorem stepOtherwiseKeepsState : Obligations.StepOtherwiseKeepsState :=
  ⟨fun s h => by simp only [step, h], fun _ _ h hc => exec_unpowered h hc⟩

/-- Settles O7. -/
theorem resetSatisfiesInvariants : Obligations.ResetSatisfiesInvariants := by
  refine ⟨⟨?_, ?_⟩, rfl, ?_⟩
  · exact fun h => Bool.noConfusion h.1
  · exact fun h => Bool.noConfusion h.1
  · exact ⟨Nat.zero_le _, Nat.zero_le _, Nat.zero_le _, Nat.zero_le _⟩

/-! ## Keeping the invariants -/

/-- `t` has each of the three invariants that `s` has. -/
structure KeepsInv (s t : State) : Prop where
  valves : s.valvesExclusive → t.valvesExclusive
  pages : s.pagesCanonical → t.pagesCanonical
  lists : s.listsBounded → t.listsBounded

theorem KeepsInv.refl (s : State) : KeepsInv s s := ⟨id, id, id⟩

theorem KeepsInv.trans {s t u : State} (h : KeepsInv s t) (k : KeepsInv t u) : KeepsInv s u :=
  ⟨k.valves ∘ h.valves, k.pages ∘ h.pages, k.lists ∘ h.lists⟩

/-- The other order of `trans`: the last operation first. -/
theorem KeepsInv.after {s t u : State} (k : KeepsInv t u) (h : KeepsInv s t) : KeepsInv s u := h.trans k

/-- No invariant speaks of the store's own state. -/
theorem KeepsInv.store (s : State) (x : Store) : KeepsInv s { s with store := x } := ⟨id, id, id⟩

/-- An operation keeps the three invariants of every state. -/
def Keeping (f : State → State) : Prop := ∀ s, KeepsInv s (f s)

theorem Keeping.id : Keeping (fun s => s) := KeepsInv.refl

/-! ## Notices, streams, scrubber, captures, triggers -/

section Shared
variable (s : State)

theorem raise_keeps (b : NoticeBody) : KeepsInv s (raise b s) := by
  obtain ⟨h, e⟩ | ⟨h, e⟩ := raise_split s b
  · refine e ▸ ⟨id, id, fun ⟨hq, _, hw, hr⟩ => ⟨hq, ?_, hw, hr⟩⟩
    simpa using Nat.succ_le_of_lt h
  · exact e ▸ ⟨id, id, id⟩

theorem completeStream_keeps (n : StreamNo) (c : Completion) : KeepsInv s (completeStream n c s) := by
  unfold completeStream
  exact (raise_keeps _ _).after ⟨id, id, id⟩

theorem decideStream_keeps (n : StreamNo) (c : Completion) : KeepsInv s (decideStream n c s) := by
  unfold decideStream
  dsimp only
  split
  · split
    · exact ⟨id, id, id⟩
    · exact (completeStream_keeps _ n c).after ⟨id, id, id⟩
  · exact .refl s

theorem recordGone_keeps (k : Nat) (n : StreamNo) : KeepsInv s (recordGone k n s) := by
  unfold recordGone
  split
  · exact decideStream_keeps s n _
  · exact .refl s

/-- An operation that leaves all but streams, scrubber and store keeps the invariants. -/
theorem KeepsInv.of_frame {t : State} (h : outside t = outside s ∧ linkOutside t = linkOutside s ∧ t.cap = s.cap)
    (hn : t.clp.notices = s.clp.notices) : KeepsInv s t := by
  obtain ⟨ho, hl, hc⟩ := h
  have hq := congrArg Clp.queue hl
  change t.clp.queue = s.clp.queue at hq
  refine ⟨?_, ?_, ?_⟩
  · unfold State.valvesExclusive; rw [outside_tpc _ _ ho]; exact id
  · unfold State.pagesCanonical; rw [outside_nv _ _ ho]; exact id
  · unfold State.listsBounded; rw [hq, hn, hc]; exact id

theorem scrubStart_notices (fuel : Nat) (s : State) : (scrubStart fuel s).clp.notices = s.clp.notices := by
  induction fuel generalizing s with
  | zero => rfl
  | succ fuel ih =>
    unfold scrubStart
    dsimp only
    split
    · rfl
    · split
      · split
        · exact ih _
        · rfl
      · rfl

theorem scrubStart_keeps (fuel : Nat) : KeepsInv s (scrubStart fuel s) :=
  .of_frame s (scrubStart_frame fuel s) (scrubStart_notices fuel s)

theorem scrubEnd_keeps : KeepsInv s (scrubEnd s) := by
  unfold scrubEnd
  dsimp only
  split
  · exact (scrubStart_keeps _ 2).after ⟨id, id, id⟩
  · exact ⟨id, id, id⟩

theorem scrubAbandon_keeps (k : Nat) : KeepsInv s (scrubAbandon k s) := by
  unfold scrubAbandon
  split
  · exact .refl s
  · split
    · exact (scrubEnd_keeps _).after ⟨id, id, id⟩
    · exact .refl s

theorem slotGone_keeps (slot number : Nat) : KeepsInv s (slotGone slot number s) := by
  have streams := (recordGone_keeps (recordGone number .s0 s) number .s1).after (recordGone_keeps s number .s0)
  exact (scrubAbandon_keeps _ slot).after (streams.trans (.store _ _))

theorem openCapture_refuse_keeps (t : PendingTrigger) : KeepsInv s (openCapture.refuse t s) :=
  (raise_keeps _ _).after ⟨id, id, id⟩

theorem openRecord_keeps (t : PendingTrigger) (pre slot : Nat) : KeepsInv s (openRecord t pre slot s) := ⟨id, id, id⟩

theorem setEntry_keeps (slot : Nat) (e : DirEntry) : KeepsInv s (s.setEntry slot e) := ⟨id, id, id⟩

theorem openCapture_keeps (t : PendingTrigger) (pre : Nat) : KeepsInv s (openCapture t pre s) := by
  unfold openCapture
  dsimp only
  split
  · split
    · exact (openRecord_keeps _ t pre _).after ((setEntry_keeps s _ _).trans (.store _ _))
    · exact (openRecord_keeps _ t pre _).after
        (((setEntry_keeps s _ _).trans (slotGone_keeps _ _ _)).trans (.store _ _))
    · exact openCapture_refuse_keeps s t
  · exact openCapture_refuse_keeps s t

theorem pend_keeps (t : PendingTrigger) : KeepsInv s (pend t s) := by
  unfold pend
  split
  next h => exact ⟨id, id, fun ⟨hq, hn, _, hr⟩ => ⟨hq, hn, by simpa using Nat.succ_le_of_lt h, hr⟩⟩
  next => exact ⟨id, id, id⟩

theorem secondary_keeps (src : Source) (b : Word32) (r : OpenRecord) : KeepsInv s (secondary src b r s) := ⟨id, id, id⟩

theorem takeAdmitted_keeps (src : Source) (again : Bool) : KeepsInv s (takeAdmitted src again s) := by
  unfold takeAdmitted
  dsimp only
  split
  · split
    · exact .refl s
    · exact openCapture_keeps s _ _
  · split
    · exact .refl s
    · exact pend_keeps s _
  all_goals
    split
    · exact .refl s
    · split
      · exact secondary_keeps s _ _ _
      · split
        · exact .refl s
        · exact pend_keeps s _

theorem trigger_keeps (src : Source) (again : Bool) : KeepsInv s (trigger src again s) := by
  unfold trigger
  dsimp only
  split
  · exact (takeAdmitted_keeps _ src again).after ⟨id, id, id⟩
  · exact ⟨id, id, id⟩

/-- A notice and a trigger after it. -/
theorem trigger_raise_keeps (src : Source) (again : Bool) (b : NoticeBody) :
    KeepsInv s (trigger src again (raise b s)) := (trigger_keeps _ src again).after (raise_keeps s b)

theorem writerAsk_keeps : KeepsInv s (writerAsk s) := by
  unfold writerAsk
  split
  · split <;> exact ⟨id, id, id⟩
  · exact .refl s

theorem enterClosing_keeps (c : CloseStatus) (r : OpenRecord) : KeepsInv s (enterClosing c r s) := ⟨id, id, id⟩

/-- What the store port and the TX line take keeps the invariants. -/
theorem settle_keeps : KeepsInv s (settle s) := by
  refine ⟨?_, ?_, fun ⟨hq, hn, hw, hr⟩ => ⟨?_, ?_, ?_, ?_⟩⟩
  · unfold State.valvesExclusive; rw [settle_tpc]; exact id
  · unfold State.pagesCanonical; rw [settle_nv_pages]; exact id
  · rwa [settle_clp_queue]
  · exact Nat.le_trans (settle_settles s).2.2.2 hn
  · rwa [settle_cap_waiting]
  · rwa [settle_cap_ring]

end Shared

/-! ## Rows and requests -/

section Rows
variable {s t : State}

theorem act_keeps {f : State → State} (hf : Keeping f) (h : act f s = .next t) : KeepsInv s t := by
  unfold act at h
  obtain rfl := Host.Outcome.next.inj h
  split
  · exact (settle_keeps _).after (hf s)
  · exact .refl s

/-- The state that the owning block's rule leaves. -/
def Served.state : Served → State
  | .reply _ _ t => t
  | .hold t => t

/-- A request's rule keeps the invariants. -/
def ServeKeeps (serve : List Byte → State → Served) : Prop := ∀ p s, KeepsInv s (serve p s).state

theorem answer_keeps (f : ReqFrame) (st : ReplyStatus) (p : List Byte) (s : State) : KeepsInv s (answer f st p s) := by
  refine ⟨id, id, fun ⟨hq, hn, hw, hr⟩ => ⟨?_, hn, hw, hr⟩⟩
  simp only [answer_clp, List.length_tail]
  omega

theorem arrive_keeps (f : ReqFrame) (s : State) : KeepsInv s (arrive f s) := by
  obtain h | ⟨-, h⟩ := arrive_eq s f
  · rw [h]; exact .refl s
  · rw [h]; exact ⟨id, id, fun ⟨_, hn, hw, hr⟩ => ⟨by simp, hn, hw, hr⟩⟩

theorem serveRequest_keeps (f : ReqFrame) {serve : List Byte → State → Served} (hs : ServeKeeps serve) (s : State) :
    KeepsInv s (serveRequest f serve s) := by
  have served := hs f.payload s
  unfold serveRequest
  split
  · exact answer_keeps ..
  · split <;> rename_i h <;> rw [h] at served
    · exact (answer_keeps ..).after served
    · exact served.trans ⟨id, id, id⟩

theorem takeRequest_keeps (row : ReqRow) (f : ReqFrame) {serve : List Byte → State → Served} (hs : ServeKeeps serve) :
    Keeping (takeRequest row f serve) := by
  intro s
  unfold takeRequest
  split
  · exact (serveRequest_keeps f hs _).after (arrive_keeps f s)
  · exact .refl s

/-- A request row whose rule keeps the invariants. -/
theorem request_keeps {row : ReqRow} {f : ReqFrame} {serve : List Byte → State → Served} (hs : ServeKeeps serve)
    (h : act (takeRequest row f serve) s = .next t) : KeepsInv s t := act_keeps (takeRequest_keeps row f hs) h

end Rows

end Sys2Proof.Machine

namespace Sys2Proof.Machine

/-! ## Emergency and penalty -/

section Emergency
variable (s : State)

theorem Tpc.takeEmergency_drivers (e : Nat) (c : Tpc) :
    (c.takeEmergency e).apply = c.apply ∧ (c.takeEmergency e).release = c.release := by
  unfold Tpc.takeEmergency
  dsimp only
  split <;> exact ⟨rfl, rfl⟩

theorem Tpc.oneDriver_of_drivers {c d : Tpc} (h : d.apply = c.apply ∧ d.release = c.release) (hc : c.oneDriver) :
    d.oneDriver := by
  unfold Tpc.oneDriver at hc ⊢
  rwa [h.1, h.2]

theorem emergencyEnter_keeps (cause : EntryCause) : KeepsInv s (emergencyEnter cause s) := by
  refine (trigger_raise_keeps _ .emergency false _).after ⟨fun ⟨h1, h2⟩ => ⟨?_, ?_⟩, id, id⟩
  · exact Tpc.oneDriver_of_drivers (Tpc.takeEmergency_drivers _ _) h1
  · exact Tpc.oneDriver_of_drivers (Tpc.takeEmergency_drivers _ _) h2

theorem emergencyCause_keeps (cause : EntryCause) : KeepsInv s (emergencyCause cause s) := by
  unfold emergencyCause
  split
  · exact trigger_keeps s _ _
  · exact emergencyEnter_keeps s cause

theorem emergencyExit_keeps (m : ExitManner) : KeepsInv s (emergencyExit m s) :=
  (raise_keeps _ _).after ⟨id, id, id⟩

theorem repeatCause_keeps (was now : Bool) : KeepsInv s (repeatCause was now s) := by
  unfold repeatCause
  split
  · exact trigger_keeps s _ _
  · exact .refl s

theorem causeStep_keeps : KeepsInv s (causeStep s) := by
  have tested : KeepsInv s (testStep s) := ⟨id, id, id⟩
  obtain ⟨-, h⟩ | ⟨-, -, h⟩ | ⟨-, -, -, h⟩ | ⟨-, -, -, h⟩ := causeStep_cases s <;> rw [h]
  · exact tested.trans ((repeatCause_keeps _ _ _).trans (repeatCause_keeps _ _ _))
  · exact tested.trans (emergencyEnter_keeps _ _)
  · exact tested.trans (emergencyEnter_keeps _ _)
  · exact tested

theorem exitStep_keeps : KeepsInv s (exitStep s) := by
  unfold exitStep
  split
  · exact emergencyExit_keeps s _
  · exact .refl s

theorem historyStep_keeps : KeepsInv s (historyStep s) := ⟨id, id, id⟩

theorem chargedStep_keeps : KeepsInv s (chargedStep s) := ⟨id, id, id⟩

theorem esUpdate_keeps : KeepsInv s (esUpdate s) :=
  (((chargedStep_keeps s).trans (causeStep_keeps _)).trans (exitStep_keeps _)).trans (historyStep_keeps _)

theorem esStatus_keeps (ident : Nat) (flag : Bool) : KeepsInv s (esStatus ident flag s) := by
  unfold esStatus
  dsimp only
  split
  · exact (emergencyCause_keeps _ _).after ⟨id, id, id⟩
  · exact ⟨id, id, id⟩

theorem esShare_keeps (flag : Bool) : KeepsInv s (esShare flag s) := by
  unfold esShare
  dsimp only
  split
  · exact (emergencyCause_keeps _ _).after ⟨id, id, id⟩
  · exact ⟨id, id, id⟩

theorem esDrop_keeps (leaves : Nat → Bool) : KeepsInv s (esDrop leaves s) := ⟨id, id, id⟩

theorem penaltyLatch_keeps (code : Nat) : KeepsInv s (penaltyLatch code s) :=
  (trigger_raise_keeps _ _ _ _).after ⟨id, id, id⟩

end Emergency

theorem serveEmergencyApply_keeps : ServeKeeps serveEmergencyApply := fun _ s => emergencyCause_keeps s _

theorem serveEmergencyReset_keeps : ServeKeeps serveEmergencyReset := by
  intro p s
  unfold serveEmergencyReset
  split_ifs
  iterate 5 exact .refl s
  exact emergencyExit_keeps s _

theorem servePenaltySet_keeps : ServeKeeps servePenaltySet := by
  intro p s
  unfold servePenaltySet
  dsimp only
  split_ifs
  · exact .refl s
  · exact .refl s
  · exact penaltyLatch_keeps s _

theorem servePenaltyClear_keeps : ServeKeeps servePenaltyClear := by
  intro p s
  unfold servePenaltyClear
  dsimp only
  split_ifs
  · exact .refl s
  · exact .refl s
  · exact (raise_keeps _ _).after ⟨id, id, id⟩

/-! ## The consist line -/

section Consist
variable (s : State)

theorem sendFrame_keeps (f : ConsistFrame) (w : Option Window) : KeepsInv s (sendFrame f w s) := ⟨id, id, id⟩

theorem lineIdle_keeps : KeepsInv s (lineIdle s) := ⟨id, id, id⟩

theorem setRoll_keeps (r : RollCall) : KeepsInv s (setRoll r s) := ⟨id, id, id⟩

theorem updEntry_keeps (i : Nat) (f : Entry → Entry) : KeepsInv s (updEntry i f s) := ⟨id, id, id⟩

/-- No invariant speaks of the consist line's own state. -/
theorem KeepsInv.csl (x : Csl) : KeepsInv s { s with csl := x } := ⟨id, id, id⟩

theorem nextOpening_keeps : KeepsInv s (nextOpening s) := by
  unfold nextOpening openingFrame
  split
  · exact .refl s
  · split
    · split
      · exact (KeepsInv.csl s _).trans (sendFrame_keeps _ _ _)
      · split
        · exact .refl s
        · exact (KeepsInv.csl s _).trans (sendFrame_keeps _ _ _)
    · exact .refl s

theorem lineNext_keeps : KeepsInv s (lineNext s) := by
  unfold lineNext
  split
  · split
    · exact (KeepsInv.csl s _).trans (sendFrame_keeps _ _ _)
    · exact (KeepsInv.csl s _).trans (nextOpening_keeps _)
  · exact .refl s

theorem consistCycleStart_keeps : KeepsInv s (consistCycleStart s) := by
  unfold consistCycleStart
  split
  · exact (KeepsInv.csl s _).trans (lineNext_keeps _)
  · exact .refl s

theorem entryLost_keeps (ident : Nat) : KeepsInv s (entryLost ident s) := by
  unfold entryLost
  split
  · exact .refl s
  · split
    · exact (updEntry_keeps s _ _).trans (trigger_raise_keeps _ _ _ _)
    · exact .refl s

theorem entryJoined_keeps (ident : Nat) : KeepsInv s (entryJoined ident s) := by
  unfold entryJoined
  split
  · exact .refl s
  · dsimp only
    split
    · exact ((updEntry_keeps s _ _).trans (esStatus_keeps _ _ _)).trans (raise_keeps _ _)
    · exact .refl s

theorem exchangeGood_keeps (ident : Nat) (l : LastStatus) : KeepsInv s (exchangeGood ident l s) := by
  unfold exchangeGood
  split
  · exact .refl s
  · dsimp only
    split
    · exact (updEntry_keeps s _ _).trans (esStatus_keeps _ _ _)
    · exact (updEntry_keeps s _ _).trans (entryJoined_keeps _ _)

theorem exchangeMiss_keeps (ident : Nat) : KeepsInv s (exchangeMiss ident s) :=
  (updEntry_keeps s _ _).trans (entryLost_keeps _ _)

theorem endRollCall_keeps (st : RollStatus) : KeepsInv s (endRollCall st s) := by
  unfold endRollCall
  split
  · exact .refl s
  · exact (KeepsInv.csl s _).trans (raise_keeps _ _)

theorem rollCheck_keeps : KeepsInv s (rollCheck s) := by
  unfold rollCheck
  split
  · exact .refl s
  · split
    · exact endRollCall_keeps s _
    · exact .refl s

theorem enrolExclude_keeps : KeepsInv s (enrolExclude s) := by
  unfold enrolExclude
  split
  · exact .refl s
  · split
    · exact (setRoll_keeps s _).trans (rollCheck_keeps _)
    · exact .refl s

theorem enrolEntry_keeps (ident : Nat) : KeepsInv s (enrolEntry ident s) := by
  unfold enrolEntry
  split
  · exact .csl s _
  · dsimp only
    split
    · exact (updEntry_keeps s _ _).trans (raise_keeps _ _)
    · exact updEntry_keeps s _ _

theorem enrolSuccess_keeps (r : RollCall) : KeepsInv s (enrolSuccess r s) := by
  unfold enrolSuccess
  split
  · exact .refl s
  · exact (enrolEntry_keeps s _).trans (setRoll_keeps _ _)

theorem rollAct_keeps (l h : Nat) (o : RollOutcome) (r : RollCall) : KeepsInv s (rollAct l h o r s) := by
  unfold rollAct
  cases o <;> dsimp only
  · exact .refl s
  · split_ifs
    · exact setRoll_keeps s _
    · exact endRollCall_keeps s _
    · exact setRoll_keeps s _
  · split_ifs
    · exact setRoll_keeps s _
    · exact raise_keeps s _

theorem missWindow_keeps (w : Window) : KeepsInv s (missWindow w s) := by
  cases w <;> simp only [missWindow]
  · exact exchangeMiss_keeps s _
  · exact .refl s
  · split
    · exact .refl s
    · exact setRoll_keeps s _

theorem missOpen_keeps : KeepsInv s (missOpen s) := by
  unfold missOpen
  split
  · exact (lineIdle_keeps s).trans (missWindow_keeps _ _)
  · exact .refl s
  · exact .refl s

theorem conflictEntry_keeps (f : ConsistFrame) : KeepsInv s (conflictEntry f s) := by
  have begun : KeepsInv s { s with csl := { s.csl with conflict := true, todo := [], openings := 0 },
                                   ble := { s.ble with offered := none } } := ⟨id, id, id⟩
  unfold conflictEntry
  dsimp only
  exact ((begun.trans (missOpen_keeps _)).trans (endRollCall_keeps _ _)).trans
    ((KeepsInv.csl _ _).trans (raise_keeps _ _))

theorem closeWindow_keeps (taken : List LineRx) {f : State → State} (hf : Keeping f) :
    KeepsInv s (closeWindow taken f s) := by
  unfold closeWindow
  split
  · exact conflictEntry_keeps s _
  · exact ((lineIdle_keeps s).trans (hf _)).trans (lineNext_keeps _)

theorem exchangeDecision_keeps (taken : List LineRx) : KeepsInv s (exchangeDecision taken s) := by
  unfold exchangeDecision
  split
  · refine closeWindow_keeps s taken fun u => ?_
    split
    · exact exchangeGood_keeps u _ _
    · exact exchangeMiss_keeps u _
  · exact .refl s

theorem rollDecision_keeps (taken : List LineRx) : KeepsInv s (rollDecision taken s) := by
  unfold rollDecision
  split
  · exact closeWindow_keeps s taken fun u => (rollAct_keeps u _ _ _ _).trans (rollCheck_keeps _)
  · exact .refl s

theorem enrolDecision_keeps (taken : List LineRx) : KeepsInv s (enrolDecision taken s) := by
  unfold enrolDecision
  split
  · refine closeWindow_keeps s taken fun u => ?_
    split
    · exact (enrolSuccess_keeps u _).trans (rollCheck_keeps _)
    · exact (setRoll_keeps u _).trans (enrolExclude_keeps _)
  · exact .refl s

theorem windowDecision_keeps (taken : List LineRx) : KeepsInv s (windowDecision taken s) := by
  unfold windowDecision
  split
  · exact exchangeDecision_keeps s taken
  · exact rollDecision_keeps s taken
  · exact enrolDecision_keeps s taken
  · exact .refl s
  · exact .refl s

theorem windowEvent_keeps (occurs : State → State → Bool) {decide own : State → State} (here : Bool)
    (hd : Keeping decide) (ho : Keeping own) : Keeping (windowEvent occurs decide own here) := by
  intro u
  unfold windowEvent
  split_ifs
  · exact hd u
  · exact .refl u
  · exact ho u

theorem leadConflict_keeps (rx : LineRx) : KeepsInv s (leadConflict rx s) := by
  unfold leadConflict
  split
  · split
    · exact conflictEntry_keeps s _
    · exact .refl s
  · exact .refl s

theorem releaseTransmit_keeps : KeepsInv s (releaseTransmit s) := by
  unfold releaseTransmit
  split
  · split
    · exact .refl s
    · exact (KeepsInv.csl s _).trans (sendFrame_keeps _ _ _)
  · exact .refl s

theorem consistFrameSent_keeps : KeepsInv s (consistFrameSent s) := by
  unfold consistFrameSent
  split
  · exact .csl s _
  · exact (lineIdle_keeps s).trans (lineNext_keeps _)
  · exact .refl s
  · exact .refl s

theorem resumed_keeps (c : Word16) : KeepsInv s (resumed c s) := by
  unfold resumed
  split
  · exact raise_keeps s _
  · exact .refl s

theorem acceptShare_keeps (c : Word16) (i : FollowInputs) (e : Bool) : KeepsInv s (acceptShare c i e s) := by
  unfold acceptShare
  dsimp only
  exact (resumed_keeps s c).trans (((esShare_keeps _ _).trans (sendFrame_keeps _ _ _)).after ⟨id, id, id⟩)

theorem shareAccept_keeps (rx : LineRx) : KeepsInv s (shareAccept rx s) := by
  unfold shareAccept
  split
  · split
    · exact acceptShare_keeps s _ _ _
    · exact .refl s
  · exact .refl s

theorem leadSilent_keeps : KeepsInv s (leadSilent s) := by
  unfold leadSilent
  split
  · exact (KeepsInv.csl s _).trans (raise_keeps _ _)
  · exact .refl s

theorem rollReceive_keeps (rx : LineRx) : KeepsInv s (rollReceive rx s) := by
  unfold rollReceive
  split
  · split
    · exact sendFrame_keeps s _ _
    · exact .refl s
  · exact .refl s

theorem enrolReceive_keeps (rx : LineRx) : KeepsInv s (enrolReceive rx s) := by
  unfold enrolReceive
  split
  · dsimp only
    split_ifs
    · exact (KeepsInv.csl s _).trans (sendFrame_keeps _ _ _)
    · exact sendFrame_keeps s _ _
    · exact .refl s
    · exact .refl s
  · exact .refl s

theorem unenrol_keeps (f : Option Follow) : KeepsInv s (unenrol f s) := ⟨id, id, id⟩

theorem releaseReceive_keeps (rx : LineRx) : KeepsInv s (releaseReceive rx s) := by
  unfold releaseReceive
  split
  · split
    · exact unenrol_keeps s _
    · exact .refl s
  · exact .refl s

theorem leaveLead_keeps : KeepsInv s (leaveLead s) := by
  unfold leaveLead
  dsimp only
  exact (endRollCall_keeps s _).trans ((esDrop_keeps _ _).after ⟨id, id, id⟩)

theorem leaveRole_keeps : KeepsInv s (leaveRole s) := by
  unfold leaveRole
  split
  · exact leaveLead_keeps s
  · exact unenrol_keeps s _
  · exact .refl s

theorem enterLead_keeps : KeepsInv s (enterLead s) := ⟨id, id, id⟩

theorem enterTrail_keeps : KeepsInv s (enterTrail s) := ⟨id, id, id⟩

theorem setRole_keeps (r : Role) : KeepsInv s (setRole r s) := by
  cases r <;> simp only [setRole] <;> split
  · exact .refl s
  · exact (leaveRole_keeps s).trans (.csl _ _)
  · exact .csl s _
  · exact (leaveRole_keeps s).trans (enterLead_keeps _)
  · exact .refl s
  · exact (leaveRole_keeps s).trans (enterTrail_keeps _)

end Consist

theorem serveSetRole_keeps (r : Role) : ServeKeeps (serveSetRole r) := by
  intro p s
  unfold serveSetRole
  split
  · exact setRole_keeps s r
  · exact .refl s

theorem serveRollCall_keeps : ServeKeeps serveRollCall := by
  intro p s
  unfold serveRollCall
  split_ifs
  iterate 3 exact .refl s
  exact setRoll_keeps s _

theorem serveRosterRelease_keeps : ServeKeeps serveRosterRelease := by
  intro p s
  unfold serveRosterRelease
  dsimp only
  split_ifs
  iterate 5 exact .refl s
  exact (KeepsInv.csl s _).trans (esDrop_keeps _ _)

end Sys2Proof.Machine

namespace Sys2Proof.Machine

/-! ## The image update: AM, BLE, FLM, TPC -/

section Update
variable (s : State)

theorem setSlide_keeps (t : Truck) (k : TruckSlide) : KeepsInv s (s.setSlide t k) := ⟨id, id, id⟩

theorem axleEvent_keeps (a : Axle) (f : AxleRec → AxleRec) : KeepsInv s (axleEvent a f s) := ⟨id, id, id⟩

theorem setBlend_keeps (t : Truck) (k : TruckBlend) : KeepsInv s (s.setBlend t k) := ⟨id, id, id⟩

theorem handSlide_keeps : KeepsInv s (handSlide s) := ⟨id, id, id⟩

theorem vrefStep_keeps : KeepsInv s (vrefStep s) := by
  unfold vrefStep
  dsimp only
  split_ifs
  · exact (raise_keeps _ _).after ⟨id, id, id⟩
  · exact ⟨id, id, id⟩
  · exact ⟨id, id, id⟩
  · exact (raise_keeps _ _).after ⟨id, id, id⟩

theorem axleStep_keeps (held braking : Bool) : KeepsInv s (axleStep held braking s) := ⟨id, id, id⟩

theorem degradedStep_keeps : KeepsInv s (degradedStep s) := ⟨id, id, id⟩

theorem ceilingSandStep_keeps (before : PerTruck Correction) : KeepsInv s (ceilingSandStep before s) := ⟨id, id, id⟩

theorem dumpEnter_keeps (t : Truck) : KeepsInv s (dumpEnter t s) := setSlide_keeps s _ _

theorem forcedReapply_keeps (t : Truck) : KeepsInv s (forcedReapply t s) := by
  unfold forcedReapply
  dsimp only
  split
  · exact (setSlide_keeps s _ _).trans (trigger_raise_keeps _ _ _ _)
  · exact .refl s

theorem holdEnd_keeps (t : Truck) : KeepsInv s (holdEnd t s) := by
  unfold holdEnd
  dsimp only
  split_ifs
  · exact dumpEnter_keeps s t
  · exact setSlide_keeps s _ _
  · exact setSlide_keeps s _ _
  · exact .refl s

theorem correctionStep_keeps (t : Truck) : KeepsInv s (correctionStep t s) := by
  unfold correctionStep
  dsimp only
  split
  · split
    · exact dumpEnter_keeps s t
    · exact .refl s
  · split
    · exact dumpEnter_keeps s t
    · exact setSlide_keeps s _ _
  · split
    · exact (setSlide_keeps s _ _).trans (forcedReapply_keeps _ t)
    · exact setSlide_keeps s _ _
  · exact (setSlide_keeps s _ _).trans (holdEnd_keeps _ t)

theorem amUpdate_keeps (held : Bool) : KeepsInv s (amUpdate held s) := by
  unfold amUpdate
  split
  · unfold amStep
    dsimp only
    exact (((((vrefStep_keeps s).trans (axleStep_keeps _ _ _)).trans (degradedStep_keeps _)).trans
      (correctionStep_keeps _ _)).trans (correctionStep_keeps _ _)).trans
      ((ceilingSandStep_keeps _ _).trans (handSlide_keeps _))
  · exact (handSlide_keeps _).after ⟨id, id, id⟩

theorem latchDbFault_keepsInv (t : Truck) : KeepsInv s (latchDbFault t s) := by
  unfold latchDbFault
  dsimp only
  split
  · exact (setBlend_keeps s _ _).trans (trigger_raise_keeps _ _ _ _)
  · exact .refl s

/-- No invariant speaks of the blend engine's own state. -/
theorem KeepsInv.ble (x : Ble) : KeepsInv s { s with ble := x } := ⟨id, id, id⟩

theorem shortfallSteps_keepsInv : KeepsInv s (shortfallSteps s) := by
  unfold shortfallSteps
  dsimp only
  exact ((KeepsInv.ble s _).trans (.ble _ _)).trans ((latchDbFault_keepsInv _ _).trans (latchDbFault_keepsInv _ _))

theorem handClaims_keeps : KeepsInv s (handClaims s) := ⟨id, id, id⟩

theorem bleUpdate_keeps : KeepsInv s (bleUpdate s) := by
  unfold bleUpdate
  split
  · exact ((shortfallSteps_keepsInv s).trans (.ble _ _)).trans (handClaims_keeps _)
  · exact .ble s _

/-- No invariant speaks of the field link's own state. -/
theorem KeepsInv.flm (x : Flm) : KeepsInv s { s with flm := x } := ⟨id, id, id⟩

theorem statusCompare_keeps : KeepsInv s (statusCompare s) := by
  unfold statusCompare
  dsimp only
  split
  · exact (KeepsInv.flm s _).trans (trigger_keeps _ _ _)
  · exact .flm s _

theorem enterUp_keeps : KeepsInv s (enterUp s) := by
  unfold enterUp
  dsimp only
  split
  · exact (KeepsInv.flm s _).trans (raise_keeps _ _)
  · exact .flm s _

theorem enterLost_keeps : KeepsInv s (enterLost s) :=
  (KeepsInv.flm s _).trans (trigger_raise_keeps _ _ _ _)

theorem linkTransition_keeps (good : Bool) : KeepsInv s (linkTransition good s) := by
  unfold linkTransition
  split
  · split
    · exact enterUp_keeps s
    · exact .refl s
  · split
    · exact enterUp_keeps s
    · exact .refl s
  · split
    · exact .refl s
    · exact .flm s _
  · split_ifs
    · exact .flm s _
    · exact enterLost_keeps s
    · exact .refl s

theorem flmDecision_keeps (rx : Inbound) : KeepsInv s (flmDecision rx s) := by
  unfold flmDecision
  dsimp only
  split
  · exact (KeepsInv.flm s _).trans (((KeepsInv.flm _ _).trans (statusCompare_keeps _)).trans (linkTransition_keeps _ _))
  · exact (KeepsInv.flm s _).trans ((KeepsInv.flm _ _).trans (linkTransition_keeps _ _))

theorem Tpc.Driven.oneDriver {c : Tpc} (h : c.Driven) : c.oneDriver := by
  obtain ⟨ha, hr⟩ := h
  unfold Tpc.oneDriver
  rw [ha, hr]
  cases c.state <;> decide

/-- Replacing one channel by one whose drivers exclude each other. -/
theorem setTpc_keeps (k : Truck) (c : Tpc) (h : (s.tpc.get k).oneDriver → c.oneDriver) : KeepsInv s (s.setTpc k c) := by
  refine ⟨fun hv => ?_, id, id⟩
  obtain ⟨h1, h2⟩ := hv
  cases k
  · exact ⟨h h1, h2⟩
  · exact ⟨h1, h h2⟩

theorem sensorFaultEntry_keeps (k : Truck) (before : ChannelState) : KeepsInv s (sensorFaultEntry k before s) := by
  unfold sensorFaultEntry
  split
  · exact trigger_raise_keeps s _ _ _
  · exact .refl s

theorem windowEnd_keeps (k : Truck) : KeepsInv s (windowEnd k s) := by
  refine setTpc_keeps s k _ (Tpc.oneDriver_of_drivers ?_)
  unfold Tpc.windowEnd
  split <;> exact ⟨rfl, rfl⟩

theorem latchChannelFault_keeps (k : Truck) : KeepsInv s (latchChannelFault k s) := by
  unfold latchChannelFault
  dsimp only
  split
  · exact (setTpc_keeps s k _ fun _ => fun h => Bool.noConfusion h.1).trans (trigger_raise_keeps _ _ _ _)
  · exact .refl s

theorem tpcDecide_keeps (k : Truck) : KeepsInv s (tpcDecide k s) := by
  unfold tpcDecide
  dsimp only
  split
  · exact (setTpc_keeps s k _ fun _ => (Tpc.decide_driven ..).oneDriver).trans
      (((sensorFaultEntry_keeps _ _ _).trans (windowEnd_keeps _ _)).trans (latchChannelFault_keeps _ _))
  · exact setTpc_keeps s k _ fun _ => fun h => Bool.noConfusion h.1

theorem Block.run_keeps (held : Bool) (b : Block) : KeepsInv s (b.run held s) := by
  cases b
  · exact bleUpdate_keeps s
  · exact (tpcDecide_keeps s _).trans (tpcDecide_keeps _ _)
  · exact amUpdate_keeps s held
  · exact esUpdate_keeps s

theorem runBlocks_keeps (held : Bool) (bs : List Block) (s : State) : KeepsInv s (runBlocks held bs s) := by
  induction bs generalizing s with
  | nil => exact .refl s
  | cons b bs ih => exact (Block.run_keeps s held b).trans (ih _)

theorem fieldCycleDecision_keeps (d : CycleEnd) : KeepsInv s (fieldCycleDecision d s) := by
  unfold fieldCycleDecision
  split
  · exact (flmDecision_keeps s _).trans (runBlocks_keeps _ _ _)
  · exact .refl s

theorem decisionWith_keeps (occurs : State → State → Bool) (d : CycleEnd) : KeepsInv s (decisionWith occurs d s) := by
  unfold decisionWith
  dsimp only
  split
  · exact fieldCycleDecision_keeps s d
  · exact .refl s

theorem eventAt_keeps (occurs : State → State → Bool) {own : State → State} (ho : Keeping own) (d : Option CycleEnd) :
    Keeping (eventAt occurs own d) := by
  intro u
  cases d
  · exact ho u
  · exact decisionWith_keeps u _ _

theorem fieldCycleStart_keeps : KeepsInv s (fieldCycleStart s) := by
  unfold fieldCycleStart
  dsimp only
  split <;> exact ⟨id, id, id⟩

theorem outboundFrameSent_keeps : KeepsInv s (outboundFrameSent s) := by
  unfold outboundFrameSent
  split
  · exact .flm s _
  · exact .refl s

theorem Tpc.clearFault_oneDriver (w : Settings) (v : Validity) {c : Tpc} (h : c.oneDriver) :
    (c.clearFault w v).oneDriver := by
  unfold Tpc.clearFault
  dsimp only
  split
  · exact h
  · split
    · split
      · exact h
      · exact fun h => Bool.noConfusion h.1
    all_goals exact h

theorem clearChannelFault_keeps (k : Truck) : KeepsInv s (clearChannelFault k s) :=
  setTpc_keeps s k _ (Tpc.clearFault_oneDriver _ _)

theorem clearDbFault_keeps (k : Truck) : KeepsInv s (clearDbFault k s) := by
  unfold clearDbFault
  dsimp only
  split
  · exact setBlend_keeps s _ _
  · exact .refl s

end Update

theorem serveFaultClear_keeps {f : Truck → State → State} (hf : ∀ k, Keeping (f k)) : ServeKeeps (serveFaultClear f) := by
  intro p s
  unfold serveFaultClear
  split
  · exact .refl s
  · split
    · exact hf _ s
    · exact .refl s

theorem serveDynamicEnable_keeps : ServeKeeps serveDynamicEnable := fun _ s => .ble s _

/-! ## Readout and control link -/

section Links
variable (s : State)

theorem setStream_keeps (n : StreamNo) (d : Stream) : KeepsInv s (s.setStream n d) := ⟨id, id, id⟩

theorem portIdle_keeps : KeepsInv s (portIdle s) := .store s _

theorem streamPageReadDone_keeps (n : StreamNo) (r : ReadResult) : KeepsInv s (streamPageReadDone n r s) := by
  unfold streamPageReadDone
  split
  · split
    · dsimp only
      split
      · exact (KeepsInv.store s _).trans (setStream_keeps _ _ _)
      · exact .store s _
    · exact .refl s
  · exact .refl s

theorem streamFrameSent_keeps (f : StreamFrame) : KeepsInv s (streamFrameSent f s) := by
  unfold streamFrameSent
  dsimp only
  split
  · exact (setStream_keeps s _ _).trans (completeStream_keeps _ _ _)
  · split
    · exact (setStream_keeps s _ _).trans (completeStream_keeps _ _ _)
    · exact (setStream_keeps s _ _).trans (setStream_keeps _ _ _)

theorem enqueue_keeps (f : ReqFrame) : KeepsInv s (enqueue f s) := by
  unfold enqueue
  split
  next h => exact ⟨id, id, fun ⟨_, hn, hw, hr⟩ => ⟨by simpa using Nat.succ_le_of_lt h, hn, hw, hr⟩⟩
  next => exact ⟨id, id, id⟩

theorem takeReceived_keeps (r : Received) : KeepsInv s (takeReceived r s) := by
  have frames : ∀ (fs : List ReqFrame) (u : State), KeepsInv u (fs.foldl (fun t f => enqueue f t) u) := by
    intro fs
    induction fs with
    | nil => exact .refl
    | cons f fs ih => exact fun u => (enqueue_keeps u f).trans (ih _)
  exact (frames _ _).after ⟨id, id, id⟩

theorem requestReceived_keeps (cs : List RxChar) : KeepsInv s (requestReceived cs s) := by
  unfold requestReceived
  dsimp only
  split
  · exact takeReceived_keeps s _
  · exact .refl s

theorem frameAbandoned_keeps (cs : List RxChar) : KeepsInv s (frameAbandoned cs s) := by
  unfold frameAbandoned
  dsimp only
  split
  · exact takeReceived_keeps s _
  · exact .refl s

theorem reportDue_keeps : KeepsInv s (reportDue s) := by
  unfold reportDue
  split
  · exact .refl s
  · split
    · split <;> exact ⟨id, id, id⟩
    · exact .refl s

theorem scheduleReport_keeps (before : State) : KeepsInv s (scheduleReport before s) := by
  unfold scheduleReport
  split
  · exact ⟨id, id, id⟩
  · exact .refl s

end Links

theorem serveStreamOpen_keeps : ServeKeeps serveStreamOpen := by
  intro p s
  unfold serveStreamOpen
  dsimp only
  split
  · exact .refl s
  · split
    · exact .refl s
    · exact setStream_keeps s _ _

theorem serveStreamAck_keeps : ServeKeeps serveStreamAck := by
  intro p s
  unfold serveStreamAck
  dsimp only
  split
  · exact setStream_keeps s _ _
  · exact .refl s

theorem serveStreamAbort_keeps : ServeKeeps serveStreamAbort := by
  intro p s
  unfold serveStreamAbort
  dsimp only
  split_ifs
  · exact (decideStream_keeps s _ _).trans (decideStream_keeps _ _ _)
  · exact .refl s
  · exact decideStream_keeps s _ _
  · exact .refl s

theorem serveWriteIf_keeps {cond : State → Option ReplyStatus} {after : State → State → State}
    (ha : ∀ before, Keeping (after before)) : ServeKeeps (serveWriteIf cond after) := by
  intro p s
  unfold serveWriteIf
  dsimp only
  split
  · split
    · exact .refl s
    · exact (ha s _).after ⟨id, id, id⟩
  · exact .refl s

theorem justWrite_keeps (before : State) : Keeping (justWrite before) := KeepsInv.refl

theorem KeepsInv.commit (s : State) (k : Option Commit) : KeepsInv s { s with clp := { s.clp with commit := k } } :=
  ⟨id, id, id⟩

theorem serveConfigCommit_keeps : ServeKeeps serveConfigCommit := by
  intro p s
  unfold serveConfigCommit
  split
  · exact .refl s
  · split
    · exact raise_keeps s _
    · exact KeepsInv.commit s _

/-! ## Captures -/

section Captures
variable (s : State)

theorem truncate_keeps : KeepsInv s (truncate s) := by
  unfold truncate
  split
  · exact .refl s
  · dsimp only
    split
    · exact (KeepsInv.store s _).trans (enterClosing_keeps _ _ _)
    · exact ⟨id, id, id⟩

theorem ringPush_length (b : SampleBlock) (ring : List SampleBlock) : (ringPush b ring).length ≤ 512 := by
  simp [ringPush, Config.ringSize]
  omega

theorem sealBlock_keeps : KeepsInv s (sealBlock s) := by
  have pushed (u : State) (b : SampleBlock) (n : Nat) (w : Word32) (m : BitVec 8) : KeepsInv u { u with cap := { u.cap with
      sealTicks := n, ring := ringPush b u.cap.ring, fill := w, marks := m } } :=
    ⟨id, id, fun hs => by
      simp only [State.listsBounded] at hs ⊢
      exact ⟨hs.1, hs.2.1, hs.2.2.1, ringPush_length b u.cap.ring⟩⟩
  unfold sealBlock
  dsimp only
  split_ifs
  · exact ((truncate_keeps s).trans (pushed _ _ _ _ _)).trans (writerAsk_keeps _)
  · exact (pushed s _ _ _ _).trans (writerAsk_keeps _)
  · exact .refl s

theorem storePage_keeps (slot page : Nat) (bs : List SampleBlock) (v : Bool) : KeepsInv s (storePage slot page bs v s) :=
  ⟨id, pagesWrite_wf _ _ _, id⟩

theorem eraseSlot_keeps (slot : Nat) : KeepsInv s (eraseSlot slot s) := ⟨id, pagesErase_wf _ _, id⟩

theorem setStored_keeps (slot : Nat) (e : StoredEntry) : KeepsInv s (s.setStored slot e) := ⟨id, id, id⟩

theorem countBlocks_keeps (slot n : Nat) : KeepsInv s (countBlocks slot n s) := ⟨id, id, id⟩

theorem afterPage_keeps (v : Bool) (r : OpenRecord) : KeepsInv s (afterPage v r s) := by
  unfold afterPage
  split
  · exact enterClosing_keeps s _ _
  · exact enterClosing_keeps s _ _
  · split
    · exact enterClosing_keeps s _ _
    · exact writerAsk_keeps s

/-- A page stored, its blocks counted where it verifies. -/
theorem countPage_keeps (slot page : Nat) (bs : List SampleBlock) (v : Bool) :
    KeepsInv s (if v then countBlocks slot bs.length (storePage slot page bs v s) else storePage slot page bs v s) := by
  split
  · exact (storePage_keeps s _ _ _ _).trans (countBlocks_keeps _ _ _)
  · exact storePage_keeps s _ _ _ _

theorem pageWriteDone_keeps (v : Bool) : KeepsInv s (pageWriteDone v s) := by
  unfold pageWriteDone
  split
  · dsimp only
    split
    · exact (portIdle_keeps s).trans (countPage_keeps _ _ _ _ _)
    · exact ((portIdle_keeps s).trans (countPage_keeps _ _ _ _ _)).trans (afterPage_keeps _ _ _)
  · exact .refl s

theorem reclaimEraseDone_keeps : KeepsInv s (reclaimEraseDone s) := by
  unfold reclaimEraseDone
  split
  · dsimp only
    exact (((portIdle_keeps s).trans (eraseSlot_keeps _ _)).trans (setEntry_keeps _ _ _)).trans (.store _ _)
  · exact .refl s

/-- No invariant speaks of a capture's state. -/
theorem KeepsInv.capState (x : CaptureState) (r : Option OpenRecord) :
    KeepsInv s { s with cap := { s.cap with state := x, record := r } } := ⟨id, id, id⟩

theorem openingEntryWritten_keeps : KeepsInv s (openingEntryWritten s) := by
  unfold openingEntryWritten
  split
  · dsimp only
    have stored := (portIdle_keeps s).trans (setStored_keeps _ ‹Nat› (.capturing ‹RecordInfo›))
    split
    · exact stored
    · split
      · exact stored.trans (enterClosing_keeps _ _ _)
      · exact stored.trans ((writerAsk_keeps _).after ⟨id, id, id⟩)
  · exact .refl s

theorem joinPending_keeps (r : OpenRecord) (ts : List PendingTrigger) (s : State) : KeepsInv s (joinPending r ts s) := by
  induction ts generalizing s with
  | nil => exact .refl s
  | cons t ts ih =>
    unfold joinPending
    split
    · exact (secondary_keeps s _ _ _).trans (ih _)
    · exact ih s

/-- A pending list of at most four keeps the invariants. -/
theorem KeepsInv.waiting {ts : List PendingTrigger} (h : s.listsBounded → ts.length ≤ 4) :
    KeepsInv s { s with cap := { s.cap with waiting := ts } } :=
  ⟨id, id, fun hs => ⟨hs.1, hs.2.1, h hs, hs.2.2.2⟩⟩

theorem takePending_keeps (ts : List PendingTrigger) (s : State) (h : s.listsBounded → ts.length ≤ 4) :
    KeepsInv s (takePending ts s) := by
  induction ts generalizing s with
  | nil => exact .refl s
  | cons t ts ih =>
    have rest : s.listsBounded → ts.length ≤ 4 := fun hs => Nat.le_of_succ_le (h hs)
    have opened := (KeepsInv.waiting s rest).trans (openCapture_keeps _ t (min t.pre (s.olderInRing t.block)))
    have still (u : State) (hu : u.cap.waiting = ts) (hb : u.listsBounded) : ts.length ≤ 4 := hu ▸ hb.2.2.1
    have waits := (openCapture_frame { s with cap := { s.cap with waiting := ts } } t
      (min t.pre (s.olderInRing t.block))).2.2.2
    unfold takePending
    dsimp only
    split
    · exact opened.trans ((KeepsInv.waiting _ fun hb => (List.length_filter_le _ _).trans (still _ waits hb)).trans
        (joinPending_keeps _ _ _))
    · exact opened.trans (ih _ (still _ waits))

theorem recordClosed_keeps (slot : Nat) (i : RecordInfo) : KeepsInv s (recordClosed slot i s) := by
  unfold recordClosed
  dsimp only
  exact (((setEntry_keeps s _ _).trans (raise_keeps _ _)).trans (.capState _ _ _)).trans
    (takePending_keeps _ _ fun h => h.2.2.1)

theorem closingEntryWritten_keeps : KeepsInv s (closingEntryWritten s) := by
  unfold closingEntryWritten
  split
  · exact ((portIdle_keeps s).trans (setStored_keeps _ _ _)).trans (recordClosed_keeps _ _ _)
  · exact .refl s

end Captures

theorem serveMark_keeps : ServeKeeps serveMark := by
  intro p s
  unfold serveMark
  split
  · exact trigger_keeps s _ _
  · exact .refl s

/-! ## The record store -/

section Records
variable (s : State)

theorem askDir_keeps (slot : Nat) (k : DirKind) : KeepsInv s (askDir slot k s) := .store s _

theorem setProtected_keeps (slot : Nat) (v : Bool) : KeepsInv s (setProtected slot v s) := ⟨id, id, id⟩

theorem answerHeld_keeps : KeepsInv s (answerHeld s) := by
  unfold answerHeld
  split
  · exact answer_keeps _ _ _ s
  · exact .refl s

theorem dirWritten_keeps (w : DirWrite) (i : RecordInfo) : KeepsInv s (dirWritten w i s) := by
  unfold dirWritten
  dsimp only
  split
  · exact (setStored_keeps s _ _).trans (setProtected_keeps _ _ _)
  all_goals exact setStored_keeps s _ _

theorem protectWriteDone_keeps : KeepsInv s (protectWriteDone s) := by
  unfold protectWriteDone
  split
  · exact ((portIdle_keeps s).trans (dirWritten_keeps _ _ _)).trans (answerHeld_keeps _)
  · exact .refl s

theorem unprotectWriteDone_keeps : KeepsInv s (unprotectWriteDone s) := by
  unfold unprotectWriteDone
  split
  · exact ((portIdle_keeps s).trans (dirWritten_keeps _ _ _)).trans (answerHeld_keeps _)
  · exact .refl s

theorem damagedWriteDone_keeps : KeepsInv s (damagedWriteDone s) := by
  unfold damagedWriteDone
  split
  · exact (portIdle_keeps s).trans (dirWritten_keeps _ _ _)
  · exact .refl s

theorem hostEraseDone_keeps : KeepsInv s (hostEraseDone s) := by
  unfold hostEraseDone
  split
  · dsimp only
    have erased (slot : Nat) := ((portIdle_keeps s).trans (eraseSlot_keeps _ slot)).trans
      (setEntry_keeps _ slot ⟨.free, none⟩)
    split
    · exact erased _
    · exact (erased _).trans ((KeepsInv.store _ _).trans (raise_keeps _ _))
  · exact .refl s

theorem scrubRequest_keeps : KeepsInv s (scrubRequest s) := by
  unfold scrubRequest
  dsimp only
  split
  · split
    · exact (KeepsInv.store s _).trans (scrubStart_keeps _ _)
    · exact .store s _
  · exact .refl s

theorem markDamaged_keeps (slot page : Nat) (i : RecordInfo) : KeepsInv s (markDamaged slot page i s) := by
  unfold markDamaged
  split
  · exact .refl s
  · exact (KeepsInv.store s _).trans ((askDir_keeps _ _ _).trans (raise_keeps _ _))

theorem scrubOn_keeps (slot page blocks : Nat) : KeepsInv s (scrubOn slot page blocks s) := by
  unfold scrubOn
  split
  · exact .store s _
  · exact (KeepsInv.store s _).trans (scrubEnd_keeps _)

theorem scrubPageReadDone_keeps (r : ReadResult) : KeepsInv s (scrubPageReadDone r s) := by
  unfold scrubPageReadDone
  split
  · dsimp only
    split
    · refine (portIdle_keeps s).trans (KeepsInv.after (scrubOn_keeps _ _ _ _) ?_)
      split
      · exact markDamaged_keeps _ _ _ _
      · exact .refl _
    · exact portIdle_keeps s
  · exact .refl s

theorem configItemDone_keeps (n : Nat) (k : Commit) : KeepsInv s (configItemDone n k s) := ⟨id, id, id⟩

theorem configCheckDone_keeps (k : Commit) : KeepsInv s (configCheckDone k s) := (raise_keeps _ _).after ⟨id, id, id⟩

theorem configAreaWriteDone_keeps : KeepsInv s (configAreaWriteDone s) := by
  unfold configAreaWriteDone
  split
  · exact (portIdle_keeps s).trans (configItemDone_keeps _ _ _)
  · exact (portIdle_keeps s).trans (configCheckDone_keeps _ _)
  · exact .refl s

end Records

theorem serveRecordProtect_keeps : ServeKeeps serveRecordProtect := by
  intro p s
  unfold serveRecordProtect
  split
  · exact .refl s
  · split
    · split
      · exact .refl s
      · exact (setProtected_keeps s _ _).trans (askDir_keeps _ _ _)
    · exact setProtected_keeps s _ _
    · exact setProtected_keeps s _ _
    · exact .refl s
    · exact .refl s

theorem serveRecordUnprotect_keeps : ServeKeeps serveRecordUnprotect := by
  intro p s
  unfold serveRecordUnprotect
  split
  · exact .refl s
  · split
    · split
      · exact askDir_keeps s _ _
      · exact .refl s
    all_goals exact .refl s

theorem serveRecordErase_keeps : ServeKeeps serveRecordErase := by
  intro p s
  unfold serveRecordErase
  dsimp only
  split
  · exact .refl s
  · split_ifs
    iterate 3 exact .refl s
    exact ((setEntry_keeps s _ _).trans (.store _ _)).trans (slotGone_keeps _ _ _)

/-! ## Power and RESTART -/

section Power
variable (s : State)

theorem scanPages_wf (f : ScanFaults) (stored : List StoredEntry) {ps : List (Nat × Page)} (h : Memory.wf ps = true) :
    Memory.wf (scanPages f stored ps) = true := by
  unfold scanPages
  generalize stored.zipIdx = es
  induction es generalizing ps with
  | nil => exact h
  | cons e es ih =>
    refine ih ?_
    dsimp only
    split
    · exact pagesErase_wf _ _ h
    · exact h

theorem cutOperation_wf (c : CutShort) (op : PortOp) {nv : NonVolatile} (h : Memory.wf nv.pages = true) :
    Memory.wf (cutOperation c op nv).pages = true := by
  unfold cutOperation
  split
  · exact h
  · exact pagesWrite_wf _ _ _ h
  iterate 4 exact h
  · exact pagesErase_wf _ _ h
  · exact pagesErase_wf _ _ h
  · exact h
  · exact h

theorem nvAfterLoss_wf (c : CutShort) (h : s.pagesCanonical) : Memory.wf (nvAfterLoss c s).pages = true := by
  unfold nvAfterLoss
  split
  · exact h
  · exact cutOperation_wf c _ h

/-- A part that boots has the three invariants when the scan's memory is in canonical form. -/
theorem bootFrom_keeps (f : ScanFaults) (nv : NonVolatile) (next : Nat)
    (h : s.pagesCanonical → Memory.wf nv.pages = true) : KeepsInv s (bootFrom f nv next s) := by
  have off : Tpc.boot.oneDriver := fun h => Bool.noConfusion h.1
  unfold bootFrom
  dsimp only
  split
  · exact ⟨fun _ => ⟨off, off⟩, fun hs => scanPages_wf f _ (h hs), fun _ => by simp [State.listsBounded, State.boot, Clp.boot, Cap.boot]⟩
  · exact ⟨fun _ => ⟨off, off⟩, fun hs => scanPages_wf f _ (h hs), fun _ => by simp [State.listsBounded, State.boot, Clp.boot, Cap.boot]⟩

theorem powerOn_keeps (f : ScanFaults) : KeepsInv s (powerOn f s) := by
  refine bootFrom_keeps s f _ 1 fun h => ?_
  split
  · exact nvAfterLoss_wf s _ h
  · exact h

theorem powerLoss_keeps (c : CutShort) : KeepsInv s (powerLoss c s) := by
  unfold powerLoss
  split
  · exact ⟨id, nvAfterLoss_wf s c, id⟩
  · exact .refl s

theorem finishOperation_keeps (v : Bool) : KeepsInv s (finishOperation v s) := by
  unfold finishOperation
  split
  · exact .refl s
  · exact (portIdle_keeps s).trans (countPage_keeps _ _ _ _ _)
  · exact (portIdle_keeps s).trans (eraseSlot_keeps _ _)
  · exact (portIdle_keeps s).trans (eraseSlot_keeps _ _)
  · exact (portIdle_keeps s).trans (setStored_keeps _ _ _)
  · exact (portIdle_keeps s).trans (dirWritten_keeps _ _ _)
  · split
    · exact portIdle_keeps s
    · exact (portIdle_keeps s).trans (configItemDone_keeps _ _ _)
  · split
    · exact portIdle_keeps s
    · exact (portIdle_keeps s).trans (configCheckDone_keeps _ _)
  · exact portIdle_keeps s
  · exact portIdle_keeps s

theorem makeDirWrite_keeps (w : DirWrite) : KeepsInv s (makeDirWrite s w) := by
  unfold makeDirWrite
  split
  · exact .refl s
  · exact dirWritten_keeps s _ _

theorem makeDirWrites_keeps (ws : List DirWrite) (s : State) : KeepsInv s (ws.foldl makeDirWrite s) := by
  induction ws generalizing s with
  | nil => exact .refl s
  | cons w ws ih => exact (makeDirWrite_keeps s w).trans (ih _)

theorem endCapture_keeps (begun : Bool) : KeepsInv s (endCapture begun s) := by
  unfold endCapture interruptRecord
  split
  · exact .refl s
  · split_ifs
    · exact .refl s
    · split
      · exact .refl s
      · exact setStored_keeps s _ _
    · exact eraseSlot_keeps s _
    · exact .refl s

theorem endHostErase_keeps : KeepsInv s (endHostErase s) := by
  unfold endHostErase
  split
  · exact .refl s
  · exact eraseSlot_keeps s _

theorem endCommit_keeps : KeepsInv s (endCommit s) := by
  unfold endCommit
  split
  · exact .refl s
  · exact ⟨id, id, id⟩

theorem partRestart_keeps (r : RestartFacts) : KeepsInv s (partRestart r s) := by
  unfold partRestart
  dsimp only
  refine KeepsInv.trans ?_ (bootFrom_keeps _ r.faults _ _ id)
  exact ((((finishOperation_keeps s _).trans (makeDirWrites_keeps _ _)).trans (endCapture_keeps _ _)).trans
    (endHostErase_keeps _)).trans (endCommit_keeps _)

theorem txFrameEnd_keeps (r : RestartFacts) : KeepsInv s (txFrameEnd r s) := by
  have idle : KeepsInv s { s with clp := { s.clp with tx := none } } := ⟨id, id, id⟩
  unfold txFrameEnd
  split
  · exact .refl s
  · dsimp only
    split
    · split
      · exact idle.trans (partRestart_keeps _ r)
      · exact idle
    · exact idle.trans (streamFrameSent_keeps _ _)
    · exact idle
    · exact idle

end Power

/-! ## Every command, every step -/

/-- A request that only reads. -/
theorem reply_keeps {st : ReplyStatus} {content : List Byte → State → List Byte} :
    ServeKeeps (fun p s => .reply st (content p s) s) := fun _ s => .refl s

theorem exec_keeps (c : Instr) {s t : State} (h : exec c s = .next t) : KeepsInv s t := by
  cases c
  case powerOn f => exact Host.Outcome.next.inj h ▸ powerOn_keeps s f
  case powerLoss c => exact Host.Outcome.next.inj h ▸ powerLoss_keeps s c
  case fieldCycleStart => exact act_keeps fieldCycleStart_keeps h
  case fieldCycleDecision d => exact act_keeps (fun s => fieldCycleDecision_keeps s d) h
  case fieldLinkUp d => exact act_keeps (fun s => decisionWith_keeps s _ d) h
  case fieldLinkLost d => exact act_keeps (fun s => decisionWith_keeps s _ d) h
  case shortfallEntry t d => exact act_keeps (eventAt_keeps _ (fun s => setBlend_keeps s _ _) d) h
  case shortfallClear t d => exact act_keeps (eventAt_keeps _ (fun s => setBlend_keeps s _ _) d) h
  case dbFaultLatch t d => exact act_keeps (eventAt_keeps _ (fun s => latchDbFault_keepsInv s _) d) h
  case supervisionWindowEnd t d => exact act_keeps (eventAt_keeps _ (fun s => windowEnd_keeps s _) d) h
  case channelFaultLatch t d => exact act_keeps (eventAt_keeps _ (fun s => latchChannelFault_keeps s _) d) h
  case axleSlideConfirm a d => exact act_keeps (eventAt_keeps _ (fun s => axleEvent_keeps s _ _) d) h
  case axleRecoveryEnd a d => exact act_keeps (eventAt_keeps _ (fun s => axleEvent_keeps s _ _) d) h
  case axleExclude a d => exact act_keeps (eventAt_keeps _ (fun s => axleEvent_keeps s _ _) d) h
  case axleReturn a d => exact act_keeps (eventAt_keeps _ (fun s => axleEvent_keeps s _ _) d) h
  case forcedReapply t d =>
    exact act_keeps (eventAt_keeps _ (fun s => (forcedReapply_keeps s t).trans (handSlide_keeps _)) d) h
  case reapplyHoldEnd t d =>
    exact act_keeps (eventAt_keeps _ (fun s => (holdEnd_keeps s t).trans (handSlide_keeps _)) d) h
  case settleEnd t d => exact act_keeps (eventAt_keeps _ (fun s => (setSlide_keeps s _ _).trans (handSlide_keeps _)) d) h
  case sampleBlockSeal => exact act_keeps sealBlock_keeps h
  case consistCycleStart => exact act_keeps consistCycleStart_keeps h
  case exchangeDecision taken => exact act_keeps (fun s => exchangeDecision_keeps s taken) h
  case unitLost i taken =>
    exact act_keeps (windowEvent_keeps _ _ (fun s => windowDecision_keeps s _) (fun s => entryLost_keeps s i)) h
  case unitJoined i taken =>
    exact act_keeps (windowEvent_keeps _ _ (fun s => windowDecision_keeps s _) (fun s => entryJoined_keeps s i)) h
  case rollDecision taken => exact act_keeps (fun s => rollDecision_keeps s taken) h
  case enrolDecision taken => exact act_keeps (fun s => enrolDecision_keeps s taken) h
  case enrolExclude taken =>
    exact act_keeps (windowEvent_keeps _ _ (fun s => enrolDecision_keeps s _) enrolExclude_keeps) h
  case releaseTransmit => exact act_keeps releaseTransmit_keeps h
  case leadConflict rx => exact act_keeps (fun s => leadConflict_keeps s rx) h
  case shareAccept rx => exact act_keeps (fun s => shareAccept_keeps s rx) h
  case leadSilent => exact act_keeps leadSilent_keeps h
  case rollReceive rx => exact act_keeps (fun s => rollReceive_keeps s rx) h
  case enrolReceive rx => exact act_keeps (fun s => enrolReceive_keeps s rx) h
  case releaseReceive rx => exact act_keeps (fun s => releaseReceive_keeps s rx) h
  case controlFrameAbandoned cs => exact act_keeps (fun s => frameAbandoned_keeps s cs) h
  case requestReceived cs => exact act_keeps (fun s => requestReceived_keeps s cs) h
  case requestUnknownKind k tag p => exact request_keeps reply_keeps h
  case identify tag p => exact request_keeps reply_keeps h
  case status tag p => exact request_keeps reply_keeps h
  case configRead tag p => exact request_keeps reply_keeps h
  case configWrite tag p => exact request_keeps (serveWriteIf_keeps justWrite_keeps) h
  case configWriteUnitIdentity tag p => exact request_keeps (serveWriteIf_keeps justWrite_keeps) h
  case configWriteSlotMap tag p => exact request_keeps (serveWriteIf_keeps justWrite_keeps) h
  case configWriteDbCurve tag p => exact request_keeps (serveWriteIf_keeps justWrite_keeps) h
  case configWriteTriggerEnable tag p => exact request_keeps (serveWriteIf_keeps justWrite_keeps) h
  case configWriteRecordChannels tag p => exact request_keeps (serveWriteIf_keeps justWrite_keeps) h
  case configWriteReportInterval tag p =>
    exact request_keeps (serveWriteIf_keeps fun before s => scheduleReport_keeps s before) h
  case configCommit tag p => exact request_keeps serveConfigCommit_keeps h
  case configAreaWriteDone => exact act_keeps configAreaWriteDone_keeps h
  case setRoleOffline tag p => exact request_keeps (serveSetRole_keeps _) h
  case setRoleLead tag p => exact request_keeps (serveSetRole_keeps _) h
  case setRoleTrail tag p => exact request_keeps (serveSetRole_keeps _) h
  case rollCall tag p => exact request_keeps serveRollCall_keeps h
  case rosterRead tag p => exact request_keeps reply_keeps h
  case rosterRelease tag p => exact request_keeps serveRosterRelease_keeps h
  case dynamicEnable tag p => exact request_keeps serveDynamicEnable_keeps h
  case penaltySet tag p => exact request_keeps servePenaltySet_keeps h
  case penaltyClear tag p => exact request_keeps servePenaltyClear_keeps h
  case emergencyApply tag p => exact request_keeps serveEmergencyApply_keeps h
  case emergencyReset tag p => exact request_keeps serveEmergencyReset_keeps h
  case faultClearChannel tag p => exact request_keeps (serveFaultClear_keeps fun k s => clearChannelFault_keeps s k) h
  case faultClearDb tag p => exact request_keeps (serveFaultClear_keeps fun k s => clearDbFault_keeps s k) h
  case faultClearBoth tag p =>
    exact request_keeps
      (serveFaultClear_keeps fun k s => (clearChannelFault_keeps s k).trans (clearDbFault_keeps _ k)) h
  case mark tag p => exact request_keeps serveMark_keeps h
  case recordList tag p => exact request_keeps reply_keeps h
  case recordProtect tag p => exact request_keeps serveRecordProtect_keeps h
  case recordUnprotect tag p => exact request_keeps serveRecordUnprotect_keeps h
  case recordErase tag p => exact request_keeps serveRecordErase_keeps h
  case streamOpen tag p => exact request_keeps serveStreamOpen_keeps h
  case streamAck tag p => exact request_keeps serveStreamAck_keeps h
  case streamAbort tag p => exact request_keeps serveStreamAbort_keeps h
  case restart tag p => exact request_keeps reply_keeps h
  case txFrameEnd r => exact act_keeps (fun s => txFrameEnd_keeps s r) h
  case reportDue => exact act_keeps reportDue_keeps h
  case pageWriteDone v => exact act_keeps (fun s => pageWriteDone_keeps s v) h
  case reclaimEraseDone => exact act_keeps reclaimEraseDone_keeps h
  case openingEntryWritten => exact act_keeps openingEntryWritten_keeps h
  case closingEntryWritten => exact act_keeps closingEntryWritten_keeps h
  case protectWriteDone => exact act_keeps protectWriteDone_keeps h
  case unprotectWriteDone => exact act_keeps unprotectWriteDone_keeps h
  case damagedWriteDone => exact act_keeps damagedWriteDone_keeps h
  case hostEraseDone => exact act_keeps hostEraseDone_keeps h
  case streamPageReadDone n r => exact act_keeps (fun s => streamPageReadDone_keeps s n r) h
  case scrubRequest => exact act_keeps scrubRequest_keeps h
  case scrubPageReadDone r => exact act_keeps (fun s => scrubPageReadDone_keeps s r) h
  case consistFrameSent => exact act_keeps consistFrameSent_keeps h
  case outboundFrameSent => exact act_keeps outboundFrameSent_keeps h

theorem step_keeps {s t : State} (h : step s = .next t) : KeepsInv s t := by
  unfold step at h
  split at h
  · exact Host.Outcome.next.inj h ▸ .refl s
  · exact (exec_keeps _ h).after ⟨id, id, id⟩

/-- Settles O8: the drivers follow a channel's state at every decision, and every other operation leaves them or puts them off. -/
theorem valvesNeverBothDriven : Obligations.ValvesNeverBothDriven := fun _ _ hs h => (step_keeps h).valves hs

/-- Settles O9: a page write, a slot's erase and the scan keep the addresses strictly rising. -/
theorem pagesStayCanonical : Obligations.PagesStayCanonical := fun _ _ hs h => (step_keeps h).pages hs

/-- Settles O10: a list at its bound takes nothing more. -/
theorem listsStayBounded : Obligations.ListsStayBounded := fun _ _ hs h => (step_keeps h).lists hs

end Sys2Proof.Machine

/-! What the store port and the TX line take after a command (log 32): the port's grant and the transmit arbiter by what they
leave, notices, and the operations that a grant begins. -/
namespace Sys2Proof.Machine

/-! ## What a grant and the transmit arbiter leave -/

/-- What the idle port and the idle line leave of store, capture, streams and link, from `s` to `t`, beside `Settles`. -/
structure Takes (s t : State) : Prop where
  stored : ∀ slot : Nat, t.nv.stored[slot]? = s.nv.stored[slot]? ∨ t.nv.stored[slot]? = some StoredEntry.erasing
  cap : { t.cap with record := s.cap.record } = s.cap
  record : t.cap.record.map (fun r => { r with copied := 0 }) = s.cap.record.map (fun r => { r with copied := 0 })
  store : t.store =
    { s.store with port := t.store.port, last := t.store.last, writer := t.store.writer, dirQueue := t.store.dirQueue,
                   check := t.store.check, hostErase := t.store.hostErase }
  writer : t.store.writer = s.store.writer ∨ t.store.writer = none
  dirQueue : t.store.dirQueue = s.store.dirQueue ∨ t.store.dirQueue = s.store.dirQueue.tail
  check : t.store.check.map (fun k => { k with ask := false }) = s.store.check.map (fun k => { k with ask := false })
  hostErase : t.store.hostErase.map (fun h => { h with ask := false }) =
    s.store.hostErase.map (fun h => { h with ask := false })
  rdu : ∀ n, t.rdu.get n = { s.rdu.get n with ask := (t.rdu.get n).ask, buffer := (t.rdu.get n).buffer }
  clp : t.clp =
    { s.clp with tx := t.clp.tx, replySlot := t.clp.replySlot, notices := t.clp.notices, reportSlot := t.clp.reportSlot,
                 lastStream := t.clp.lastStream, commit := t.clp.commit }
  commit : t.clp.commit.map (fun k => { k with ask := false }) = s.clp.commit.map (fun k => { k with ask := false })

theorem Takes.refl (s : State) : Takes s s :=
  ⟨fun _ => .inl rfl, rfl, rfl, rfl, .inl rfl, .inl rfl, rfl, rfl, fun _ => rfl, rfl, rfl⟩

/-- An entry marked ERASING among the others. -/
theorem getElem?_set_erasing (l : List StoredEntry) (i slot : Nat) :
    (l.set i .erasing)[slot]? = l[slot]? ∨ (l.set i .erasing)[slot]? = some .erasing := by
  rw [List.getElem?_set]
  split_ifs with h hl
  · exact .inr rfl
  · exact .inl (h ▸ (List.getElem?_eq_none (Nat.le_of_not_lt hl)).symm)
  · exact .inl rfl

theorem grantWriter_takes (op : WriterOp) {r : OpenRecord} {s : State} (h : s.cap.record = some r) :
    Takes s (grantWriter op r s) := by
  cases op <;> simp only [grantWriter]
  case erase =>
    exact { Takes.refl s with stored := getElem?_set_erasing _ _, store := rfl, writer := .inr rfl }
  case opening =>
    split
    · exact { Takes.refl s with store := rfl, writer := .inr rfl }
    · exact { Takes.refl s with store := rfl, writer := .inr rfl }
  case page =>
    exact { Takes.refl s with cap := rfl, record := by simp [h], store := rfl, writer := .inr rfl }

/-- What is taken after the last-granted client is noted. -/
theorem Takes.of_last {s t : State} (c : Client) (h : Takes { s with store := { s.store with last := c } } t) : Takes s t :=
  { h with store := h.store, cap := h.cap, clp := h.clp, rdu := h.rdu }

theorem grantStream_takes (n : StreamNo) (s : State) : Takes s (grantStream n s) := by
  refine { Takes.refl s with rdu := fun m => ?_, store := rfl }
  cases n <;> cases m <;> rfl

theorem grant_takes (c : Client) (s : State) : Takes s (grant c s) := by
  refine Takes.of_last c ?_
  have noted := Takes.refl { s with store := { s.store with last := c } }
  unfold grant
  cases c <;> dsimp only
  case writer =>
    split
    · exact grantWriter_takes _ ‹_›
    · exact { noted with writer := .inr rfl, store := rfl }
  case directory =>
    split
    · exact noted
    · rename_i w rest h
      have taken : s.store.dirQueue.tail = rest := by rw [h]; rfl
      split
      · exact { noted with dirQueue := .inr taken.symm, store := rfl }
      · exact { noted with dirQueue := .inr taken.symm, store := rfl }
  case config =>
    split
    · exact noted
    · rename_i k h
      exact { noted with commit := by simp [h], store := rfl, clp := rfl }
  case s0 => exact grantStream_takes .s0 _
  case s1 => exact grantStream_takes .s1 _
  case scrubber =>
    split
    · exact noted
    · rename_i k h
      exact { noted with check := by simp [h], store := rfl }
  case hostErase =>
    split
    · exact noted
    · rename_i e h
      exact { noted with hostErase := by simp [h], store := rfl, stored := getElem?_set_erasing _ _ }

theorem portGrant_takes (s : State) : Takes s (portGrant s) := by
  unfold portGrant
  split
  · exact .refl s
  · split
    · exact .refl s
    · exact grant_takes _ s

theorem txStream_takes (n : StreamNo) (f : StreamFrame) {s t : State} (h : Takes s t) : Takes s (txStream n f t) := by
  refine { h with rdu := fun m => ?_, clp := ?_ }
  · have kept := h.rdu m
    have begun := congrArg (fun d : Stream => { d with buffer := none }) kept
    cases n <;> cases m
    · exact begun
    · exact kept
    · exact kept
    · exact begun
  · exact congrArg (fun c : Clp => { c with tx := some (.stream f), lastStream := n }) h.clp

theorem txChoose_takes {s t : State} (h : Takes s t) : Takes s (txChoose t) := by
  unfold txChoose
  split
  · exact h
  · split
    · rename_i r _
      exact { h with clp := congrArg (fun c : Clp => { c with tx := some (.reply r), replySlot := none }) h.clp }
    · split
      · rename_i n rest _
        exact { h with clp := congrArg (fun c : Clp => { c with tx := some (.notice n), notices := rest }) h.clp }
      · split
        · rename_i c _
          exact { h with clp := congrArg (fun x : Clp => { x with tx := some (.report c), reportSlot := none }) h.clp }
        · dsimp only
          split
          · exact txStream_takes _ _ h
          · exact txStream_takes _ _ h
          · exact h

theorem settle_takes (s : State) : Takes s (settle s) := by
  unfold settle
  split
  · exact txChoose_takes (portGrant_takes s)
  · exact .refl s

theorem settle_eq (s : State) : settle s = if s.powered = true ∧ s.begun = true then txChoose (portGrant s) else s := by
  unfold settle
  simp only [Bool.and_eq_true]

/-- Settles O3. -/
theorem settleKeeps : Obligations.SettleKeeps := fun s =>
  have h := settle_takes s
  ⟨settle_eq s, ⟨settle_powered s, settle_rom s, settle_time s, settle_begun s, settle_pending s⟩,
    ⟨settle_flm s, settle_ble s, settle_tpc s, settle_am s⟩, settle_es s, settle_csl s, settle_nv_pages s,
    settle_nv_area s, h.stored, h.cap, h.record, h.store, h.writer, h.dirQueue, h.check, h.hostErase, h.rdu, h.clp,
    h.commit⟩

/-! ## Notices and the transmit arbiter (R181, R182) -/

section Line
variable {s : State}

theorem raise_of_room (b : NoticeBody) (h : s.clp.notices.length < 16) :
    raise b s = { s with clp := { s.clp with notices := s.clp.notices ++ [⟨s.time, b⟩] } } := if_pos h

theorem raise_of_full (b : NoticeBody) (h : 16 ≤ s.clp.notices.length) :
    raise b s = { s with clp := { s.clp with lostNotices := min 65535 (s.clp.lostNotices + 1) } } :=
  if_neg (Nat.not_lt.mpr h)

theorem txChoose_busy {x : TxFrame} (h : s.clp.tx = some x) : txChoose s = s := by simp only [txChoose, h]

variable (idle : s.clp.tx = none)
include idle

theorem txChoose_reply {r : Reply} (h : s.clp.replySlot = some r) :
    txChoose s = { s with clp := { s.clp with tx := some (.reply r), replySlot := none } } := by
  simp only [txChoose, idle, h]

theorem txChoose_notice {n : Notice} {rest : List Notice} (hr : s.clp.replySlot = none) (h : s.clp.notices = n :: rest) :
    txChoose s = { s with clp := { s.clp with tx := some (.notice n), notices := rest } } := by
  simp only [txChoose, idle, hr, h]

theorem txChoose_report {c : List Byte} (hr : s.clp.replySlot = none) (hn : s.clp.notices = [])
    (h : s.clp.reportSlot = some c) :
    txChoose s = { s with clp := { s.clp with tx := some (.report c), reportSlot := none } } := by
  simp only [txChoose, idle, hr, hn, h]

variable (hr : s.clp.replySlot = none) (hn : s.clp.notices = []) (hc : s.clp.reportSlot = none)
include hr hn hc

theorem txChoose_other {f : StreamFrame} (h : (s.rdu.get (StreamNo.other s.clp.lastStream)).buffer = some f) :
    txChoose s = txStream (StreamNo.other s.clp.lastStream) f s := by
  simp only [txChoose, idle, hr, hn, hc, h]

theorem txChoose_last {f : StreamFrame} (ho : (s.rdu.get (StreamNo.other s.clp.lastStream)).buffer = none)
    (h : (s.rdu.get s.clp.lastStream).buffer = some f) : txChoose s = txStream s.clp.lastStream f s := by
  simp only [txChoose, idle, hr, hn, hc, ho, h]

theorem txChoose_nothing (ho : (s.rdu.get (StreamNo.other s.clp.lastStream)).buffer = none)
    (h : (s.rdu.get s.clp.lastStream).buffer = none) : txChoose s = s := by
  simp only [txChoose, idle, hr, hn, hc, ho, h]

end Line

/-! ## The store port's choice and grant (R154, R155) -/

section Port
variable {s : State}

theorem chosenClient_burst (hm : s.clp.working.storeMode = .burst) (hw : s.store.writer = some .page) :
    s.chosenClient = some .writer := if_pos ⟨hm, hw⟩

/-- The first waiting client of the cyclic order. -/
theorem chosenClient_first {before after : List Client} {c : Client}
    (hm : s.clp.working.storeMode = .interleaved ∨ s.store.writer ≠ some .page)
    (ho : s.store.last.after = before ++ c :: after) (hb : ∀ b ∈ before, s.waits b = false) (hc : s.waits c = true) :
    s.chosenClient = some c := by
  have noBurst : ¬(s.clp.working.storeMode = .burst ∧ s.store.writer = some .page) := by
    rintro ⟨h1, h2⟩
    obtain h | h := hm
    · exact StoreMode.noConfusion (h.symm.trans h1)
    · exact h h2
  have skipped : before.find? s.waits = none := List.find?_eq_none.mpr fun b h => by simp [hb b h]
  rw [State.chosenClient, if_neg noBurst, ho, List.find?_append, skipped, List.find?_cons_of_pos hc]
  rfl

theorem portGrant_busy {op : PortOp} (h : s.store.port = some op) : portGrant s = s := by simp only [portGrant, h]

theorem portGrant_none (h : s.store.port = none) (hc : s.chosenClient = none) : portGrant s = s := by
  simp only [portGrant, h, hc]

theorem portGrant_some {c : Client} (h : s.store.port = none) (hc : s.chosenClient = some c) :
    portGrant s = grant c s := by simp only [portGrant, h, hc]

/-- A directory write holds the entry as it is, but for the protection that an unprotect write clears (R150, R160). -/
theorem dirContent_eq (w : DirWrite) (i : RecordInfo) :
    dirContent w i = if w.kind = .unprotect then { i with isProtected := false } else i := by
  obtain ⟨slot, kind⟩ := w
  cases kind <;> rfl

end Port

/-- Settles O4. -/
theorem noticesAndArbiters : Obligations.NoticesAndArbiters := by
  refine ⟨fun b s => ⟨raise_of_room b, raise_of_full b⟩, fun s => ⟨fun _ => txChoose_busy, fun idle =>
      ⟨fun _ => txChoose_reply idle, fun _ _ => txChoose_notice idle, fun _ => txChoose_report idle,
        fun hr hn hc => ⟨fun _ => txChoose_other idle hr hn hc, fun _ => txChoose_last idle hr hn hc,
          txChoose_nothing idle hr hn hc⟩⟩⟩,
    fun s => ⟨chosenClient_burst, fun _ _ _ => chosenClient_first⟩,
    fun s => ⟨fun _ => portGrant_busy, portGrant_none, fun _ => portGrant_some⟩, fun s => ?_⟩
  refine ⟨fun r hr => ⟨fun hw => ?_, fun i hw hi => ?_, fun hw => ?_⟩, fun w rest i hq hi => ?_, fun k hk => ⟨fun ht => ?_,
    fun n rest ht => ?_⟩, fun n => ?_, fun k hk => ?_, fun h hh => ?_⟩
  · simp only [grant, hw, hr, grantWriter]
    rfl
  · simp only [State.entry] at hi
    simp only [grant, hw, hr, grantWriter, State.entry, hi]
  · simp only [grant, hw, hr, grantWriter]
    rfl
  · simp only [State.entry] at hi
    simp only [grant, hq, State.entry, hi, dirContent_eq]
  · simp only [grant, hk, ht]
  · simp only [grant, hk, ht]
  · cases n <;> rfl
  · simp only [grant, hk]
  · simp only [grant, hh]
    rfl

end Sys2Proof.Machine

/-! Triggers (R134 to R141): the slots that a capture may take, a slot that goes ERASING, the capture opened or refused, the
trigger that waits, is dropped, or joins the open record. -/
namespace Sys2Proof.Machine

/-! ## The working directory -/

section Directory
variable (s : State)

theorem entry_setEntry_self {slot : Nat} (e : DirEntry) (h : slot < s.store.dir.length) :
    (s.setEntry slot e).entry slot = e := by
  simp [State.entry, List.getD_eq_getElem?_getD, h]

theorem entry_of_dir {t : State} (h : t.store.dir = s.store.dir) (slot : Nat) : t.entry slot = s.entry slot := by
  simp only [State.entry, h]

theorem freeSlot_eq_some {slot : Nat} : s.freeSlot = some slot ↔
    slot < 48 ∧ (s.entry slot).state = .free ∧ ∀ j < slot, (s.entry j).state ≠ .free := by
  simp only [State.freeSlot, List.find?_range_eq_some, beq_iff_eq, List.mem_range, Bool.not_eq_true', beq_eq_false_iff_ne]
  exact ⟨fun ⟨h, hs, hj⟩ => ⟨hs, h, hj⟩, fun ⟨hs, h, hj⟩ => ⟨h, hs, hj⟩⟩

theorem freeSlot_eq_none : s.freeSlot = none ↔ ∀ j < 48, (s.entry j).state ≠ .free := by
  simp only [State.freeSlot, List.find?_eq_none, List.mem_range, beq_iff_eq, ne_eq]

/-- The unprotected CLOSED record of a slot. -/
theorem reclaimable_eq_some {i : Nat} {c : Nat × Nat} : s.reclaimable i = some c ↔ c.1 = i ∧ (s.entry i).state = .closed ∧
    ∃ r, (s.entry i).record = some r ∧ r.isProtected = false ∧ r.number = c.2 := by
  obtain ⟨slot, number⟩ := c
  unfold State.reclaimable
  split
  next hs =>
    cases hr : (s.entry i).record with
    | none => simp
    | some r =>
      cases hp : r.isProtected with
      | true => simp [hp]
      | false =>
        simp only [Option.bind_some, hp, hs, Bool.false_eq_true, if_false, Option.some.injEq, Prod.mk.injEq]
        exact ⟨fun ⟨h1, h2⟩ => ⟨h1.symm, trivial, r, rfl, hp, h2⟩, fun ⟨h1, _, _, h, _, h2⟩ => ⟨h1.symm, h ▸ h2⟩⟩
  next hs => simp [hs]

/-- The lowest of the candidates is one of them, and no candidate has a lower number. -/
theorem foldl_lowerNumber {l : List (Nat × Nat)} {best : Option (Nat × Nat)} {c : Nat × Nat}
    (h : l.foldl lowerNumber best = some c) : (best = some c ∨ c ∈ l) ∧ (∀ b, best = some b → c.2 ≤ b.2) ∧
      ∀ x ∈ l, c.2 ≤ x.2 := by
  induction l generalizing best with
  | nil => exact ⟨.inl h, fun b hb => by rw [Option.some.inj (h.symm.trans hb)], by simp⟩
  | cons y l ih =>
    obtain ⟨hm, hb, hl⟩ := ih h
    have low : c.2 ≤ y.2 ∧ (∀ b, best = some b → c.2 ≤ b.2) ∧ (lowerNumber best y = some c → best = some c ∨ c = y) := by
      cases best with
      | none =>
        have le := hb y rfl
        exact ⟨le, by simp, fun e => .inr (Option.some.inj e).symm⟩
      | some b =>
        simp only [lowerNumber] at hb ⊢
        by_cases lt : y.2 < b.2
        · rw [if_pos lt] at hb ⊢
          have le := hb y rfl
          exact ⟨le, fun b' e => Option.some.inj e ▸ Nat.le_of_lt (Nat.lt_of_le_of_lt le lt),
            fun e => .inr (Option.some.inj e).symm⟩
        · rw [if_neg lt] at hb ⊢
          have le := hb b rfl
          exact ⟨Nat.le_trans le (Nat.le_of_not_lt lt), fun b' e => Option.some.inj e ▸ le, .inl⟩
    refine ⟨?_, low.2.1, List.forall_mem_cons.mpr ⟨low.1, hl⟩⟩
    obtain hm | hm := hm
    · obtain e | e := low.2.2 hm
      · exact .inl e
      · exact .inr (e ▸ List.mem_cons_self)
    · exact .inr (List.mem_cons_of_mem _ hm)

theorem foldl_lowerNumber_eq_none {l : List (Nat × Nat)} : l.foldl lowerNumber none = none ↔ l = [] := by
  have found (l : List (Nat × Nat)) (b : Nat × Nat) : l.foldl lowerNumber (some b) ≠ none := by
    induction l generalizing b with
    | nil => simp
    | cons y l ih =>
      simp only [List.foldl_cons, lowerNumber]
      split
      · exact ih y
      · exact ih b
  cases l with
  | nil => simp
  | cons y l => simpa [lowerNumber] using found l y

theorem reclaimSlot_eq_some {slot number : Nat} (h : s.reclaimSlot = some (slot, number)) : slot < 48 ∧
    ((s.entry slot).state = .closed ∧
      ∃ i, (s.entry slot).record = some i ∧ i.isProtected = false ∧ i.number = number) ∧
    ∀ j < 48, ∀ n, ((s.entry j).state = .closed ∧
      ∃ i, (s.entry j).record = some i ∧ i.isProtected = false ∧ i.number = n) → number ≤ n := by
  obtain ⟨hm, -, hl⟩ := foldl_lowerNumber h
  have mem : (slot, number) ∈ (List.range 48).filterMap s.reclaimable := by simpa using hm
  obtain ⟨i, hi, hc⟩ := List.mem_filterMap.mp mem
  obtain ⟨rfl, hc⟩ := (reclaimable_eq_some s).mp hc
  exact ⟨List.mem_range.mp hi, hc, fun j hj n hn => hl (j, n)
    (List.mem_filterMap.mpr ⟨j, List.mem_range.mpr hj, (reclaimable_eq_some s).mpr ⟨rfl, hn⟩⟩)⟩

theorem reclaimSlot_eq_none : s.reclaimSlot = none ↔ ∀ j < 48, ∀ n, ¬((s.entry j).state = .closed ∧
    ∃ i, (s.entry j).record = some i ∧ i.isProtected = false ∧ i.number = n) := by
  unfold State.reclaimSlot
  rw [foldl_lowerNumber_eq_none, List.filterMap_eq_nil_iff]
  constructor
  · intro h j hj n hn
    have unlisted := h j (List.mem_range.mpr hj)
    rw [(reclaimable_eq_some s (c := (j, n))).mpr ⟨rfl, hn⟩] at unlisted
    cases unlisted
  · intro h j hj
    cases hc : s.reclaimable j with
    | none => rfl
    | some c => exact absurd ((reclaimable_eq_some s).mp hc).2 (h j (List.mem_range.mp hj) c.2)

end Directory

/-! ## A slot goes ERASING (R156, R164, R173) -/

section Erasing

theorem streamOnLine_of_tx {s t : State} (h : t.clp.tx = s.clp.tx) (n : StreamNo) : t.streamOnLine n = s.streamOnLine n := by
  simp only [State.streamOnLine, h]

/-- What becomes of stream `n` when the record of a number is gone, from `s` to `t` (R173). -/
structure StreamGone (number : Nat) (n : StreamNo) (s t : State) : Prop where
  ends : (s.rdu.get n).record = number → (s.rdu.get n).state = .running → (s.rdu.get n).status = none →
    (t.rdu.get n).status = some .recordGone ∧ (t.rdu.get n).ask = false ∧ (t.rdu.get n).buffer = none ∧
      (t.rdu.get n).state = if s.streamOnLine n then .running else .complete
  stays : (s.rdu.get n).record ≠ number → t.rdu.get n = s.rdu.get n

/-- Directory, check, asks and line are as before. -/
structure SameStore (s t : State) : Prop where
  dir : t.store.dir = s.store.dir
  check : t.store.check = s.store.check
  dirQueue : t.store.dirQueue = s.store.dirQueue
  nextNumber : t.store.nextNumber = s.store.nextNumber
  tx : t.clp.tx = s.clp.tx

theorem recordGone_same (number : Nat) (n : StreamNo) (s : State) : SameStore s (recordGone number n s) := by
  unfold recordGone
  split
  · obtain ⟨hd, hc, hq, hn, ht, -⟩ := decideStream_spec n .recordGone s
    exact ⟨hd, hc, hq, hn, ht⟩
  · exact ⟨rfl, rfl, rfl, rfl, rfl⟩

theorem recordGone_gone (number : Nat) (n : StreamNo) (s : State) : StreamGone number n s (recordGone number n s) := by
  unfold recordGone
  split
  next h =>
    obtain ⟨-, -, -, -, -, -, he⟩ := decideStream_spec n .recordGone s
    exact ⟨fun _ => he, fun hn => absurd h hn⟩
  next h => exact ⟨fun hn => absurd hn h, fun _ => rfl⟩

theorem recordGone_other (number : Nat) {n m : StreamNo} (h : m ≠ n) (s : State) :
    (recordGone number n s).rdu.get m = s.rdu.get m := by
  unfold recordGone
  split
  · obtain ⟨-, -, -, -, -, ho, -⟩ := decideStream_spec n .recordGone s
    exact ho m h
  · rfl

/-- Both streams, S0 before S1. -/
theorem recordsGone_gone (number : Nat) (n : StreamNo) (s : State) :
    StreamGone number n s (recordGone number .s1 (recordGone number .s0 s)) := by
  have first := recordGone_same number .s0 s
  cases n
  · obtain ⟨he, hs⟩ := recordGone_gone number .s0 s
    have kept := recordGone_other number (n := .s1) (m := .s0) (by decide) (recordGone number .s0 s)
    exact ⟨by rw [kept]; exact he, fun h => kept.trans (hs h)⟩
  · obtain ⟨he, hs⟩ := recordGone_gone number .s1 (recordGone number .s0 s)
    have kept := recordGone_other number (n := .s0) (m := .s1) (by decide) s
    rw [kept, streamOnLine_of_tx first.tx] at he
    rw [kept] at hs
    exact ⟨he, hs⟩

/-- A slot that held the record of a number goes ERASING: what its readers and the directory client do. -/
structure SlotGone (slot number : Nat) (s t : State) : Prop where
  dir : t.store.dir = s.store.dir
  nextNumber : t.store.nextNumber = s.store.nextNumber
  dirQueue : t.store.dirQueue = s.store.dirQueue.filter (fun w => w.slot != slot)
  streams : ∀ n, StreamGone number n s t
  newCheck : ∀ k, t.store.check = some k → k.slot ≠ slot
  keptCheck : ∀ k, s.store.check = some k → k.slot ≠ slot → t.store.check = some k

theorem slotGone_spec (slot number : Nat) (s : State) (h : (s.entry slot).state ≠ .closed) :
    SlotGone slot number s (slotGone slot number s) := by
  have same0 := recordGone_same number .s0 s
  have same1 := recordGone_same number .s1 (recordGone number .s0 s)
  have dir := same1.dir.trans same0.dir
  have check := same1.check.trans same0.check
  have streams := fun n => recordsGone_gone number n s
  unfold slotGone
  dsimp only
  generalize recordGone number .s1 (recordGone number .s0 s) = u at *
  obtain ⟨hnew, hkept, hdir, hrdu, hqueue, hnumber⟩ := scrubAbandon_spec slot
    { u with store := { u.store with dirQueue := u.store.dirQueue.filter (fun w => w.slot != slot) } }
    (by simpa only [State.entry, dir] using h)
  refine ⟨hdir.trans dir, hnumber.trans (same1.nextNumber.trans same0.nextNumber), hqueue.trans ?_, fun n => ?_, hnew,
    fun k hk => hkept k (check.trans hk)⟩
  · dsimp only
    rw [same1.dirQueue, same0.dirQueue]
  · obtain ⟨he, hs⟩ := streams n
    have same := congrArg (fun p => PerStream.get p n) hrdu
    dsimp only at same
    exact ⟨by rw [same]; exact he, by rw [same]; exact hs⟩

end Erasing

/-! ## A capture opened or refused (R137, R138, R156) -/

section Opening
variable (s : State)

/-- In IDLE an admitted trigger asks for a slot. -/
theorem trigger_idle {src : Source} (hi : s.cap.state = .idle) (ha : s.clp.working.admits src = true) :
    trigger src false s = openCapture ((markSource src s).triggerNow src)
      (min s.clp.working.preTrigger s.cap.ring.length) (markSource src s) := by
  have idle : (markSource src s).cap.state = .idle := hi
  simp only [trigger, markSource_clp, ha, if_true, takeAdmitted, idle]
  rfl

theorem openCapture_free (t : PendingTrigger) (pre : Nat) {slot : Nat} (hf : s.freeSlot = some slot)
    (hn : s.store.nextNumber ≤ Config.lastRecord) : openCapture t pre s =
      openRecord t pre slot { s.setEntry slot ⟨.capturing, some (openingInfo t pre s)⟩ with
        store := { (s.setEntry slot ⟨.capturing, some (openingInfo t pre s)⟩).store with writer := some .opening } } := by
  simp only [openCapture, hn, hf, if_true]

theorem openCapture_reclaim (t : PendingTrigger) (pre : Nat) {slot old : Nat} (hf : s.freeSlot = none)
    (hr : s.reclaimSlot = some (slot, old)) (hn : s.store.nextNumber ≤ Config.lastRecord) : openCapture t pre s =
      openRecord t pre slot
        { slotGone slot old (s.setEntry slot ⟨.erasing, some (openingInfo t pre s)⟩) with
          store := { (slotGone slot old (s.setEntry slot ⟨.erasing, some (openingInfo t pre s)⟩)).store with
            writer := some .erase } } := by
  simp only [openCapture, hn, hf, hr, if_true]

theorem openCapture_refused (t : PendingTrigger) (pre : Nat)
    (h : Config.lastRecord < s.store.nextNumber ∨ s.freeSlot = none ∧ s.reclaimSlot = none) :
    openCapture t pre s = openCapture.refuse t s := by
  obtain h | ⟨hf, hr⟩ := h
  · simp only [openCapture, Nat.not_le.mpr h, if_false]
  · simp only [openCapture, hf, hr, ite_self]

end Opening

/-- Settles O5. -/
theorem triggerOpensCapture : Obligations.TriggerOpensCapture := by
  refine ⟨fun slot number s => ⟨freeSlot_eq_some s, freeSlot_eq_none s, reclaimSlot_eq_some s, reclaimSlot_eq_none s⟩,
    fun src s hi ha => ?_⟩
  have opened := trigger_idle s hi ha
  refine ⟨fun slot hf hn => ?_, fun slot old hf hr hn hl => ?_, fun hfull => ?_⟩
  · rw [opened, openCapture_free (markSource src s) _ _ hf hn]
    refine ⟨rfl, rfl, rfl, rfl, rfl, rfl, rfl, rfl, fun hl => ?_⟩
    exact (entry_of_dir _ rfl slot).trans (entry_setEntry_self (markSource src s) _ hl)
  · rw [opened, openCapture_reclaim (markSource src s) _ _ hf hr hn]
    let info := openingInfo ((markSource src s).triggerNow src) (min s.clp.working.preTrigger s.cap.ring.length)
      (markSource src s)
    have entry := entry_setEntry_self (markSource src s) ⟨.erasing, some info⟩ hl
    obtain ⟨hdir, hnum, hqueue, hstreams, hnew, hkept⟩ := slotGone_spec slot old
      ((markSource src s).setEntry slot ⟨.erasing, some info⟩) (by rw [entry]; exact SlotState.noConfusion)
    obtain ⟨-, -, hcap⟩ := slotGone_frame ((markSource src s).setEntry slot ⟨.erasing, some info⟩) slot old
    have hmarks := congrArg Cap.marks hcap
    have hwaiting := congrArg Cap.waiting hcap
    have hring := congrArg Cap.ring hcap
    exact ⟨⟨rfl, congrArg (· + 1) hnum, rfl,
        congrArg (fun n => some (OpenRecord.mk n slot src s.cap.fill s.time _ s.clp.working.postTrigger
          s.clp.working.recordChannels 0 none)) hnum,
        rfl, hmarks, hwaiting, hring,
        fun _ => (entry_of_dir _ hdir slot).trans entry⟩,
      fun n => ⟨(hstreams n).ends, (hstreams n).stays⟩, hqueue, hnew, hkept⟩
  · rw [opened, openCapture_refused (markSource src s) _ _ hfull]
    rfl

end Sys2Proof.Machine

/-! Triggers that open no capture (R134, R140, R141): the mark alone, the pending list, the open record's secondaries. -/
namespace Sys2Proof.Machine

theorem Settings.admits_iff (src : Source) (w : Settings) :
    w.admits src = true ↔ src = .emergency ∨ w.triggerEnable.getLsbD src.code = true := by
  simp [Settings.admits]

section Triggers
variable (src : Source) (s : State)

/-- A trigger taken by the CAP waits: in CLOSING, and beyond the open record's last block (R134). -/
def State.triggerWaits (s : State) : Prop :=
  s.cap.state = .closing ∨ (s.cap.state = .allocating ∨ s.cap.state = .capturing) ∧
    ∃ r, s.cap.record = some r ∧ r.covers s.cap.fill = false

theorem trigger_notAdmitted (again : Bool) (h : s.clp.working.admits src = false) : trigger src again s = markSource src s := by
  simp only [trigger, markSource_clp, h, Bool.false_eq_true, if_false]

theorem trigger_admitted (again : Bool) (h : s.clp.working.admits src = true) :
    trigger src again s = takeAdmitted src again (markSource src s) := by
  simp only [trigger, markSource_clp, h, if_true]

theorem takeAdmitted_waits (again : Bool) (h : s.triggerWaits) :
    takeAdmitted src again s = if again then s else pend (s.triggerNow src) s := by
  obtain hc | ⟨ho, r, hr, hv⟩ := h
  · simp only [takeAdmitted, hc]
  · obtain ho | ho := ho <;> simp only [takeAdmitted, ho, hr, hv, Bool.false_eq_true, if_false]

theorem takeAdmitted_covered (again : Bool) {r : OpenRecord} (ho : s.cap.state = .allocating ∨ s.cap.state = .capturing)
    (hr : s.cap.record = some r) (hv : r.covers s.cap.fill = true) :
    takeAdmitted src again s = secondary src s.cap.fill r s := by
  obtain ho | ho := ho <;> simp only [takeAdmitted, ho, hr, hv, if_true]

theorem pend_room (t : PendingTrigger) (h : s.cap.waiting.length < 4) :
    pend t s = { s with cap := { s.cap with waiting := s.cap.waiting ++ [t] } } := if_pos h

theorem pend_full (t : PendingTrigger) (h : 4 ≤ s.cap.waiting.length) :
    pend t s = { s with cap := { s.cap with dropped := min 65535 (s.cap.dropped + 1) } } := if_neg (Nat.not_lt.mpr h)

theorem addSecondary_eq (offset : Nat) (i : RecordInfo) : addSecondary src offset i =
    { i with
      secondary := if i.secondary.length < 8 then i.secondary ++ [(src, offset)] else i.secondary
      overflow := if i.secondary.length < 8 then i.overflow else min 65535 (i.overflow + 1)
      isProtected := i.isProtected || src.protectedClass } := by
  unfold addSecondary
  split <;> rfl

/-- The entry of a record after an update of its working copy. -/
theorem updRecord_entry {slot : Nat} {i : RecordInfo} (f : RecordInfo → RecordInfo) (hl : slot < s.store.dir.length)
    (hi : (s.entry slot).record = some i) : ((s.updRecord slot f).entry slot).record = some (f i) := by
  unfold State.updRecord
  rw [entry_setEntry_self s _ hl, hi]
  rfl

end Triggers

/-- The rule's window, spelt out. -/
theorem triggerWaits_iff (s : State) : s.triggerWaits ↔ s.cap.state = .closing ∨
    (s.cap.state = .allocating ∨ s.cap.state = .capturing) ∧ ∃ r, s.cap.record = some r ∧
      r.pre + r.post ≤ (s.cap.fill - (r.trigBlock - BitVec.ofNat 32 r.pre)).toNat := by
  simp only [State.triggerWaits, ← Bool.not_eq_true, covers_iff, Nat.not_lt]

/-- Settles O6. -/
theorem triggerWaitsOrJoins : Obligations.TriggerWaitsOrJoins := by
  refine ⟨Settings.admits_iff, fun src s => ?_, fun src again r i s ha ho hr hin hl hi => ?_⟩
  · dsimp only
    rw [← triggerWaits_iff]
    have marked : s.triggerWaits → (markSource src s).triggerWaits := id
    refine ⟨fun again => trigger_notAdmitted src s again, fun ha hw => ?_, fun ha hw hroom => ?_, fun ha hw hfull => ?_⟩
    · rw [trigger_admitted src s true ha]
      obtain hw | hidle := hw
      · exact takeAdmitted_waits src _ true (marked hw)
      · have idle : (markSource src s).cap.state = .idle := hidle
        simp only [takeAdmitted, idle, if_true]
        rfl
    · rw [trigger_admitted src s false ha, takeAdmitted_waits src _ false (marked hw)]
      exact pend_room (markSource src s) _ hroom
    · rw [trigger_admitted src s false ha, takeAdmitted_waits src _ false (marked hw)]
      exact pend_full (markSource src s) _ hfull
  · have covered : r.covers (markSource src s).cap.fill = true := (covers_iff r s.cap.fill).mpr hin
    rw [trigger_admitted src s again ha, takeAdmitted_covered src (markSource src s) again ho hr covered]
    refine ⟨?_, hr, rfl⟩
    rw [secondary, updRecord_entry (markSource src s) _ hl hi, addSecondary_eq]
    rfl

end Sys2Proof.Machine

/-! Power (R17, R149, R152, R166, R189, R191): the load's test, the boot from a memory, the start-up scan of entries and pages,
the operation cut short. -/
namespace Sys2Proof.Machine

/-! ## The load (R189) -/

theorem firstBad_eq_some {v : Settings} {n : Nat} : v.firstBad = some n ↔
    1 ≤ n ∧ n ≤ 29 ∧ ¬itemInRange n v = true ∧ ∀ m, 1 ≤ m → m < n → itemInRange m v = true := by
  simp only [Settings.firstBad, allItems, List.find?_map, Option.map_eq_some_iff, List.find?_range_eq_some,
    Function.comp_apply, Bool.not_eq_true', List.mem_range, Bool.not_not, Bool.not_eq_true]
  constructor
  · rintro ⟨i, ⟨bad, lt, good⟩, rfl⟩
    refine ⟨Nat.le_add_left 1 i, lt, bad, fun m h1 hm => ?_⟩
    obtain ⟨j, rfl⟩ := Nat.exists_eq_add_of_le' h1
    exact good j (Nat.lt_of_add_lt_add_right hm)
  · rintro ⟨h1, h29, bad, good⟩
    obtain ⟨i, rfl⟩ := Nat.exists_eq_add_of_le' h1
    exact ⟨i, ⟨bad, h29, fun j hj => good (j + 1) (Nat.le_add_left 1 j) (Nat.add_lt_add_right hj 1)⟩, rfl⟩

theorem firstBad_eq_none {v : Settings} : v.firstBad = none ↔ ∀ n, 1 ≤ n → n ≤ 29 → itemInRange n v = true := by
  simp only [Settings.firstBad, allItems, List.find?_map, Option.map_eq_none_iff, List.find?_eq_none, List.mem_range,
    Function.comp_apply, Bool.not_eq_true', Bool.not_eq_false]
  constructor
  · intro h n h1 h29
    obtain ⟨i, rfl⟩ := Nat.exists_eq_add_of_le' h1
    exact h i h29
  · exact fun h i hi => h (i + 1) (Nat.le_add_left 1 i) hi

/-- The stored set stands under a correct check. -/
def checkGood (f : ScanFaults) (a : ConfigArea) : Prop := f.badSet = false ∧ a.checkOver = some a.values

theorem loadFault_good {f : ScanFaults} {a : ConfigArea} (h : checkGood f a) :
    loadFault f a = a.values.firstBad.map DefaultCause.outOfRange := by
  simp only [loadFault, h.1, h.2, Bool.false_eq_true, ne_eq, not_true_eq_false, or_self, if_false]

theorem loadFault_bad {f : ScanFaults} {a : ConfigArea} (h : ¬checkGood f a) : loadFault f a = some .badCheck := by
  refine if_pos ?_
  rwa [checkGood, not_and_or, Bool.not_eq_false] at h

theorem loadFault_eq_none {f : ScanFaults} {a : ConfigArea} : loadFault f a = none ↔
    checkGood f a ∧ ∀ n, 1 ≤ n → n ≤ 29 → itemInRange n a.values = true := by
  by_cases h : checkGood f a
  · rw [loadFault_good h, Option.map_eq_none_iff, firstBad_eq_none, and_iff_right h]
  · simp [loadFault_bad h, h]

theorem loadFault_eq_badCheck {f : ScanFaults} {a : ConfigArea} : loadFault f a = some .badCheck ↔ ¬checkGood f a := by
  by_cases h : checkGood f a
  · simp [loadFault_good h, h]
  · simp [loadFault_bad h, h]

theorem loadFault_eq_outOfRange {f : ScanFaults} {a : ConfigArea} {n : Nat} : loadFault f a = some (.outOfRange n) ↔
    checkGood f a ∧ 1 ≤ n ∧ n ≤ 29 ∧ ¬itemInRange n a.values = true ∧
      ∀ m, 1 ≤ m → m < n → itemInRange m a.values = true := by
  by_cases h : checkGood f a
  · rw [loadFault_good h, and_iff_right h, ← firstBad_eq_some]
    simp
  · simp [loadFault_bad h, h]

/-! ## The boot -/

theorem le_highestNumber_fold (dir : List DirEntry) (n : Nat) :
    let top := dir.foldl (fun n e => max n ((e.record.map (fun r => r.number)).getD 0)) n
    n ≤ top ∧ ∀ e ∈ dir, ∀ i, e.record = some i → i.number ≤ top := by
  induction dir generalizing n with
  | nil => exact ⟨Nat.le_refl n, by simp⟩
  | cons e dir ih =>
    obtain ⟨first, rest⟩ := ih (max n ((e.record.map (fun r => r.number)).getD 0))
    refine ⟨Nat.le_trans (Nat.le_max_left _ _) first, List.forall_mem_cons.mpr ⟨fun i hi => ?_, rest⟩⟩
    refine Nat.le_trans ?_ first
    rw [hi]
    exact Nat.le_max_right _ _

theorem le_highestNumber {dir : List DirEntry} {e : DirEntry} (he : e ∈ dir) {i : RecordInfo} (hi : e.record = some i) :
    i.number ≤ highestNumber dir := (le_highestNumber_fold dir 0).2 e he i hi

/-- The boot from a memory: the scan's memory and directory, the reset values, and the set that the load gives. -/
theorem bootFrom_eq (f : ScanFaults) (nv : NonVolatile) (next : Nat) (s : State) : ∃ w image valid notices,
    bootFrom f nv next s = State.boot s.rom (scanStore f nv) ((scanStore f nv).stored.map workingEntry)
      (max next (highestNumber ((scanStore f nv).stored.map workingEntry) + 1)) w image valid notices s.pending ∧
    (loadFault f nv.area = none → Clp.boot w image valid notices = Clp.boot nv.area.values nv.area.values true []) ∧
    ∀ c, loadFault f nv.area = some c → Clp.boot w image valid notices =
      Clp.boot Config.defaults Config.defaults false [⟨0, .configDefaulted c⟩] := by
  have area : (scanStore f nv).area = nv.area := rfl
  unfold bootFrom
  dsimp only
  rw [area]
  cases loadFault f nv.area with
  | none => exact ⟨_, _, _, _, rfl, fun _ => rfl, nofun⟩
  | some c => exact ⟨_, _, _, _, rfl, nofun, fun _ h => by rw [Option.some.inj h]⟩

/-- Settles O11. -/
theorem powerOnResetsPart : Obligations.PowerOnResetsPart := by
  refine ⟨fun f s => ⟨powerOn f s, rfl, ?_⟩,
    fun f a => ⟨loadFault_eq_none, loadFault_eq_badCheck, fun n => loadFault_eq_outOfRange⟩, ?_⟩
  · obtain ⟨w, image, valid, notices, boot, good, bad⟩ := bootFrom_eq f (if s.powered then nvAfterLoss .torn s else s.nv) 1 s
    rw [powerOn, boot, Nat.max_eq_right (Nat.le_add_left 1 _)]
    exact ⟨rfl, rfl, rfl, rfl, rfl, rfl, rfl, rfl, rfl, rfl, rfl, rfl, rfl, rfl, rfl,
      fun e he i hi => Nat.lt_succ_of_le (le_highestNumber he hi), rfl, good, bad⟩
  · refine ⟨⟨rfl, rfl, ?_⟩, by decide, by decide, ⟨rfl, rfl, ?_⟩, by decide, by decide, rfl, rfl, rfl, by decide⟩
    · exact fun k => by cases k <;> decide
    · exact fun k => by cases k <;> rfl

/-! ## Slots erased (R149) -/

/-- An erase empties the addresses of its slot and leaves the others. -/
theorem pagesRead_erase (slot a : Nat) (ps : List (Nat × Page)) : pagesRead (pagesErase slot ps) a =
    if slot * 320 ≤ a ∧ a < (slot + 1) * 320 then none else pagesRead ps a := by
  simp only [pagesRead, pagesErase, List.find?_filter, pageAddr, Config.pagesPerSlot, Nat.add_zero]
  split
  next inside =>
    simp only [Option.map_eq_none_iff, List.find?_eq_none]
    intro x _
    grind
  next outside =>
    refine congrArg (Option.map _) (congrArg (fun found => List.find? found ps) (funext fun x => ?_))
    by_cases h : x.1 = a
    · simp only [h, outside, ← Bool.decide_and, decide_false, Bool.not_false, beq_self_eq_true, and_self, decide_true]
    · simp only [beq_eq_false_iff_ne.mpr h, Bool.false_eq_true, and_false, decide_false]

theorem pagesRead_erase_self {slot p : Nat} (hp : p < 320) (ps : List (Nat × Page)) :
    pagesRead (pagesErase slot ps) (slot * 320 + p) = none := by
  rw [pagesRead_erase, if_pos (by omega)]

theorem pagesRead_erase_kept {slot a : Nat} (h : a < slot * 320 ∨ (slot + 1) * 320 ≤ a) (ps : List (Nat × Page)) :
    pagesRead (pagesErase slot ps) a = pagesRead ps a := by
  rw [pagesRead_erase, if_neg (by omega)]

/-- A page that reads erased still does when a slot is erased. -/
theorem pagesRead_erase_none {a : Nat} (x : Nat) {ps : List (Nat × Page)} (h : pagesRead ps a = none) :
    pagesRead (pagesErase x ps) a = none := by
  rw [pagesRead_erase, h, ite_self]

/-! ## The start-up scan (R166) -/

section Scan
variable (f : ScanFaults) (pages : List (Nat × Page))

/-- The page reads good and holds a block. -/
def pageHolds (slot p : Nat) : Prop :=
  (slot, p) ∉ f.badPages ∧ ∃ x, pagesRead pages (slot * 320 + p) = some x ∧ x.check = true ∧ x.blocks ≠ []

/-- The blocks of a page, 0 where it is erased. -/
def pageBlocks (slot p : Nat) : Nat := ((pagesRead pages (slot * 320 + p)).map (fun x => x.blocks.length)).getD 0

theorem countPages_of_not_holds {slot page : Nat} (h : ¬pageHolds f pages slot page) (left : Nat) :
    countPages f.badPages pages slot left page = 0 := by
  cases left with
  | zero => rfl
  | succ left =>
    unfold countPages
    split
    next => rfl
    next x hx =>
      refine if_pos ?_
      by_contra hgood
      push Not at hgood
      obtain ⟨check, blocks, listed⟩ := hgood
      exact h ⟨listed, x, hx, Bool.not_eq_false _ ▸ check, blocks⟩

theorem countPages_of_holds {slot page : Nat} (h : pageHolds f pages slot page) (left : Nat) :
    countPages f.badPages pages slot (left + 1) page =
      pageBlocks pages slot page + countPages f.badPages pages slot left (page + 1) := by
  obtain ⟨listed, x, hx, check, blocks⟩ := h
  have read : pagesRead pages (pageAddr slot page) = some x := hx
  simp [countPages, read, check, blocks, listed, pageBlocks, hx]

/-- The blocks counted are those of the pages up to the first that does not hold blocks. -/
theorem countPages_eq (slot left page : Nat) : ∃ n ≤ left, (∀ p < n, pageHolds f pages slot (page + p)) ∧
    (n = left ∨ ¬pageHolds f pages slot (page + n)) ∧
    countPages f.badPages pages slot left page = ((List.range n).map (fun p => pageBlocks pages slot (page + p))).sum := by
  induction left generalizing page with
  | zero => exact ⟨0, Nat.le_refl 0, nofun, .inl rfl, rfl⟩
  | succ left ih =>
    by_cases h : pageHolds f pages slot page
    · obtain ⟨n, le, holds, last, sum⟩ := ih (page + 1)
      simp only [Nat.add_right_comm page 1, Nat.add_assoc page _ 1] at holds last sum
      refine ⟨n + 1, Nat.succ_le_succ le, fun p hp => ?_, last.imp_left (congrArg (· + 1)), ?_⟩
      · cases p with
        | zero => exact h
        | succ p => exact holds p (Nat.lt_of_succ_lt_succ hp)
      · rw [countPages_of_holds f pages h, sum, List.range_succ_eq_map, List.map_cons, List.sum_cons, List.map_map]
        rfl
    · exact ⟨0, Nat.zero_le _, nofun, .inr h, countPages_of_not_holds f pages h _⟩

theorem scanErases_iff {slot : Nat} {e : StoredEntry} :
    scanErases f slot e = true ↔ slot ∈ f.badEntries ∨ e = .erasing ∨ e = .badCheck := by
  simp [scanErases, or_assoc]

theorem scanStore_stored {nv : NonVolatile} {slot : Nat} {e : StoredEntry} (h : nv.stored[slot]? = some e) :
    (scanStore f nv).stored[slot]? = some (scanEntry f nv.pages slot e) := by
  simp [scanStore, List.getElem?_map, List.getElem?_zipIdx, h]

/-- One slot's treatment by the scan. -/
def scanPage (f : ScanFaults) (ps : List (Nat × Page)) (q : StoredEntry × Nat) : List (Nat × Page) :=
  if scanErases f q.2 q.1 then pagesErase q.2 ps else ps

/-- Once erased, a slot's pages stay erased through the rest of the scan. -/
theorem scan_erased {slot p : Nat} (l : List (StoredEntry × Nat)) {ps : List (Nat × Page)}
    (h : pagesRead ps (slot * 320 + p) = none) : pagesRead (l.foldl (scanPage f) ps) (slot * 320 + p) = none := by
  induction l generalizing ps with
  | nil => exact h
  | cons q l ih =>
    refine ih ?_
    unfold scanPage
    split
    · exact pagesRead_erase_none _ h
    · exact h

theorem scan_erases {slot p : Nat} (hp : p < 320) {e : StoredEntry} (he : scanErases f slot e = true)
    {l : List (StoredEntry × Nat)} (hl : (e, slot) ∈ l) (ps : List (Nat × Page)) :
    pagesRead (l.foldl (scanPage f) ps) (slot * 320 + p) = none := by
  induction l generalizing ps with
  | nil => cases hl
  | cons q l ih =>
    obtain rfl | hl := List.mem_cons.mp hl
    · refine scan_erased f l ?_
      rw [scanPage, if_pos he]
      exact pagesRead_erase_self hp ps
    · exact ih hl _

theorem scan_keeps {slot p : Nat} (hp : p < 320) {l : List (StoredEntry × Nat)}
    (hl : ∀ q ∈ l, q.2 = slot → scanErases f q.2 q.1 = false) (ps : List (Nat × Page)) :
    pagesRead (l.foldl (scanPage f) ps) (slot * 320 + p) = pagesRead ps (slot * 320 + p) := by
  induction l generalizing ps with
  | nil => rfl
  | cons q l ih =>
    obtain ⟨hq, hl⟩ := List.forall_mem_cons.mp hl
    refine (ih hl _).trans ?_
    unfold scanPage
    split
    next he =>
      have other : q.2 ≠ slot := fun e => by simp [hq e] at he
      exact pagesRead_erase_kept (by omega) ps
    next => rfl

end Scan

/-- Settles O12. -/
theorem scanTreatsEntries : Obligations.ScanTreatsEntries := by
  intro f nv slot e he
  have entry := scanStore_stored f he
  refine ⟨?_, fun r hb hr => ?_, fun r hb hr => ?_, fun p hp => ⟨fun her => ?_, fun hkept => ?_⟩, rfl⟩
  · intro h
    rw [entry]
    obtain (h | rfl | rfl) | rfl := h <;> simp [scanEntry, *]
  · simp [entry, scanEntry, hr, hb]
  · obtain ⟨n, le, holds, last, sum⟩ := countPages_eq f nv.pages slot 320 0
    simp only [Nat.zero_add] at holds last sum
    refine ⟨n, le, holds, last, ?_⟩
    rw [entry, hr, scanEntry, if_neg (by simpa using hb), RecordInfo.interrupted, sum]
    rfl
  · exact scan_erases f hp ((scanErases_iff f).mpr her) (List.mk_mem_zipIdx_iff_getElem?.mpr he) nv.pages
  · refine scan_keeps f hp (fun q hq hs => ?_) nv.pages
    have listed := List.mem_zipIdx_iff_getElem?.mp hq
    rw [hs, he] at listed
    rw [hs, ← Option.some.inj listed]
    exact Bool.eq_false_iff.mpr ((scanErases_iff f).not.mpr hkept)

/-! ## Power lost in an operation (R149, R166, R191) -/

theorem nvAfterLoss_untouched (s : State) : nvAfterLoss .untouched s = s.nv := by
  unfold nvAfterLoss
  split <;> rfl

theorem nvAfterLoss_idle (c : CutShort) {s : State} (h : s.store.port = none) : nvAfterLoss c s = s.nv := by
  simp only [nvAfterLoss, h]

theorem nvAfterLoss_op (c : CutShort) {s : State} {op : PortOp} (h : s.store.port = some op) :
    nvAfterLoss c s = cutOperation c op s.nv := by
  simp only [nvAfterLoss, h]

/-- Settles O13. -/
theorem powerLossStopsPart : Obligations.PowerLossStopsPart := by
  intro c s hp
  have lost : powerLoss c s = { s with
      powered := false
      nv := nvAfterLoss c s
      flm := { s.flm with controlActive := false }
      csl := { s.csl with line := .idle }
      store := { s.store with port := none }
      clp := { s.clp with tx := none } } := if_pos hp
  refine ⟨_, congrArg Host.Outcome.next lost, rfl, fun h => ?_, ?_, ?_, ?_, ?_, ?_, ?_⟩
  · obtain rfl | h := h
    · exact nvAfterLoss_untouched s
    · exact nvAfterLoss_idle c h
  · rintro slot page bs rfl h
    dsimp only
    rw [nvAfterLoss_op .torn h]
    exact ⟨pagesRead_write_self _ _ s.nv.pages, fun a ha => pagesRead_write_other _ _ a ha s.nv.pages, rfl, rfl⟩
  · rintro slot i rfl h
    exact nvAfterLoss_op .torn h
  · rintro slot rfl h
    have torn : nvAfterLoss .torn s = { s.nv with pages := pagesErase slot s.nv.pages } := by
      obtain h | h := h <;> exact nvAfterLoss_op .torn h
    dsimp only
    rw [torn]
    exact ⟨fun p hp => pagesRead_erase_self hp s.nv.pages, fun a ha => pagesRead_erase_kept ha s.nv.pages, rfl, rfl⟩
  · rintro n slot page used rfl h
    obtain h | h := h <;> exact nvAfterLoss_op .torn h
  · rintro w i rfl h
    exact nvAfterLoss_op .torn h
  · rintro n rfl h
    obtain h | h := h <;> exact nvAfterLoss_op .torn h

end Sys2Proof.Machine

/-! The field cycle (R1 to R3, R61): the outbound phase, the decision as its blocks one after another with what they leave,
and the event rows at a decision. -/
namespace Sys2Proof.Machine

/-! ## Effects -/

/-- The effect of a row that runs a function of the state. -/
theorem effect_of_act {c : Instr} {f : State → State} {s : State} (h : exec c s = act f s) (hp : s.powered = true) :
    effect c s (f s) := h.trans (act_powered s f hp)

theorem effect_of_act_eq {c : Instr} {f : State → State} {s t : State} (h : exec c s = act f s) (hp : s.powered = true)
    (ht : f s = t) : effect c s t := ht ▸ effect_of_act h hp

/-! ## The outbound frame (R1, R2) -/

section Outbound
variable (s : State)

theorem BlendState.code_lt (b : BlendState) : b.code < 8 := by cases b <;> decide

theorem partStatus_fields : s.partStatus.getLsbD 15 = s.flm.controlActive ∧ s.partStatus.getLsbD 14 = s.es.latch ∧
    s.partStatus.toNat % 8 = s.ble.blend.code := by
  have code := BlendState.code_lt s.ble.blend
  simp only [State.partStatus, BitVec.getLsbD_ofNat, BitVec.toNat_ofNat, Nat.testBit_eq_decide_div_mod_eq]
  generalize s.ble.blend.code = n at *
  refine ⟨?_, ?_, ?_⟩
  · cases s.flm.controlActive <;> cases s.es.latch <;> simp <;> omega
  · cases s.flm.controlActive <;> cases s.es.latch <;> simp <;> omega
  · omega

theorem sandSlot_fields : s.sandSlot.getLsbD 0 = (s.am.trucks.get .t1).sand ∧
    s.sandSlot.getLsbD 1 = (s.am.trucks.get .t2).sand := by
  simp only [State.sandSlot]
  cases (s.am.trucks.get .t1).sand <;> cases (s.am.trucks.get .t2).sand <;> decide

theorem requestSlot_off (h : s.flm.controlActive = false) (k : Truck) : s.requestSlot k = 0 := by
  simp only [State.requestSlot, h, Bool.false_eq_true, if_false]

theorem requestSlot_on (h : s.flm.controlActive = true) (k : Truck) :
    s.requestSlot k = BitVec.ofNat 16 ((s.ble.trucks.get k).request / 10) := by
  simp only [State.requestSlot, h, if_true]

theorem outboundFrameSent_sending (h : s.flm.phase = .sending) :
    outboundFrameSent s = { s with flm := { s.flm with phase := .window } } := if_pos h

theorem outboundFrameSent_other (h : s.flm.phase ≠ .sending) : outboundFrameSent s = s := if_neg h

/-- The hold timer counts while the latch is set. -/
theorem heldNext_eq (e : Es) : { e with held := if e.latch then e.held + 5 else e.held } =
    if e.latch then { e with held := e.held + 5 } else e := by
  split <;> rfl

end Outbound

/-- Settles O14. -/
theorem outboundPhase : Obligations.OutboundPhase := by
  refine ⟨fun s hp => ⟨fieldCycleStart s, effect_of_act rfl hp, ?_⟩, fun s hp => ⟨fun h => ?_, fun h => ?_⟩, fun s => ?_⟩
  · cases hb : s.begun with
    | false =>
      simp only [fieldCycleStart, nextCounter, hb, Bool.false_eq_true, if_false, Bool.false_and, and_true, true_and]
      exact rfl
    | true =>
      simp only [fieldCycleStart, nextCounter, hb, if_true, Bool.true_and, true_and]
      exact ⟨rfl, rfl, heldNext_eq s.es, rfl, rfl, rfl, rfl, rfl, rfl, rfl, rfl, rfl, rfl, rfl, rfl⟩
  · exact effect_of_act_eq rfl hp (outboundFrameSent_sending s h)
  · exact effect_of_act_eq rfl hp (outboundFrameSent_other s h)
  · obtain ⟨control, latch, blend⟩ := partStatus_fields s
    obtain ⟨sand1, sand2⟩ := sandSlot_fields s
    exact ⟨control, latch, blend, fun h => ⟨requestSlot_off s h _, requestSlot_off s h _⟩, fun h => requestSlot_on s h,
      sand1, sand2⟩

/-! ## Event rows at a decision (log 1) -/

section Rows
variable {d : CycleEnd} {s : State}

theorem decisionWith_occurs {occurs : State → State → Bool} (h : occurs s (fieldCycleDecision d s) = true) :
    decisionWith occurs d s = fieldCycleDecision d s := if_pos h

theorem decisionWith_not {occurs : State → State → Bool} (h : ¬occurs s (fieldCycleDecision d s) = true) :
    decisionWith occurs d s = s := if_neg h

/-- A row that is the decision at which its event falls, and else nothing. -/
theorem row_falls {c : Instr} {occurs : State → State → Bool} {p : Prop} (hp : s.powered = true)
    (hc : exec c s = act (decisionWith occurs d) s) (h : occurs s (fieldCycleDecision d s) = true ↔ p) :
    (p → effect c s (fieldCycleDecision d s)) ∧ (¬p → effect c s s) :=
  ⟨fun hh => effect_of_act_eq hc hp (decisionWith_occurs (h.mpr hh)),
    fun hh => effect_of_act_eq hc hp (decisionWith_not (h.not.mpr hh))⟩

theorem connected_iff (l : LinkState) : LinkState.connected l = true ↔ l = .up ∨ l = .degraded := by
  cases l <;> decide

/-- The link states in which the BLE and the AM update. -/
theorem not_connected_iff (l : LinkState) : LinkState.connected l = false ↔ l = .start ∨ l = .lost := by
  cases l <;> decide

end Rows

/-- Settles O19: each row by the test on the states before and after. -/
theorem eventRowsAtDecision : Obligations.EventRowsAtDecision := by
  intro d k a s hp
  refine ⟨row_falls hp rfl ?_, row_falls hp rfl ?_, row_falls hp rfl ?_, row_falls hp rfl ?_, row_falls hp rfl ?_,
    row_falls hp rfl ?_, row_falls hp rfl ?_, row_falls hp rfl ?_, row_falls hp rfl ?_, row_falls hp rfl ?_,
    row_falls hp rfl ?_, row_falls hp rfl ?_, row_falls hp rfl ?_, row_falls hp rfl ?_⟩
  · simp only [linkUpOccurs, Bool.and_eq_true, Bool.not_eq_true', ← Bool.not_eq_true, connected_iff]
  · simp only [linkLostOccurs, Bool.and_eq_true, beq_iff_eq]
  · simp only [shortfallEntryOccurs, Bool.and_eq_true, beq_iff_eq, bne_iff_ne]
  · simp only [shortfallClearOccurs, Bool.and_eq_true, beq_iff_eq, connected_iff, and_assoc]
  · simp only [dbFaultOccurs, Bool.and_eq_true, Bool.not_eq_true']
  · simp only [windowEndOccurs, channelFaultOccurs, Bool.and_eq_true, Bool.or_eq_true, beq_iff_eq, bne_iff_ne,
      decide_eq_true_eq, ChannelState.moving_iff, and_assoc]
  · simp only [channelFaultOccurs, Bool.and_eq_true, beq_iff_eq, bne_iff_ne]
  · simp only [axleGoes, Bool.and_eq_true, beq_iff_eq]
  · simp only [axleGoes, Bool.and_eq_true, beq_iff_eq, and_assoc]
  · simp only [axleExcludeOccurs, Bool.and_eq_true, beq_iff_eq, bne_iff_ne]
  · simp only [axleGoes, Bool.and_eq_true, beq_iff_eq, connected_iff, and_assoc]
  · simp only [correctionLeaves, Bool.and_eq_true, beq_iff_eq, connected_iff, and_assoc]
  · simp only [correctionLeaves, Bool.and_eq_true, beq_iff_eq, bne_iff_ne, connected_iff, and_assoc]
  · simp only [correctionLeaves, Bool.and_eq_true, beq_iff_eq, connected_iff, and_assoc]

end Sys2Proof.Machine

/-! The decision of a field cycle (R3, log 6): what the four blocks leave as it was, their order, and the AM's steps (R61). -/
namespace Sys2Proof.Machine

/-! ## What a block leaves -/

/-- What no block touches: the base, the consist line, the memory, the link but for its notices, the ring and its counts. -/
structure Aside (s t : State) : Prop where
  base : sameBase s t
  csl : t.csl = s.csl
  nv : t.nv = s.nv
  link : linkOutside t = linkOutside s
  seals : sealsOf t = sealsOf s

/-- What a block of the decision keeps: all that stands aside, and the field link. -/
structure BlockKeeps (s t : State) : Prop extends Aside s t where
  flm : t.flm = s.flm

section Aside
variable {s t u : State}

theorem Aside.refl (s : State) : Aside s s := ⟨⟨rfl, rfl, rfl, rfl, rfl⟩, rfl, rfl, rfl, rfl⟩

theorem sameBase.trans (h : sameBase s t) (k : sameBase t u) : sameBase s u := by
  obtain ⟨hp, hr, ht, hb, hq⟩ := h
  obtain ⟨kp, kr, kt, kb, kq⟩ := k
  exact ⟨kp.trans hp, kr.trans hr, kt.trans ht, kb.trans hb, kq.trans hq⟩

theorem Aside.trans (h : Aside s t) (k : Aside t u) : Aside s u :=
  ⟨h.base.trans k.base, k.csl.trans h.csl, k.nv.trans h.nv, k.link.trans h.link, k.seals.trans h.seals⟩

theorem Aside.of_frame (ho : outside t = outside s) (hl : linkOutside t = linkOutside s) (hs : sealsOf t = sealsOf s) :
    Aside s t where
  base := ⟨outside_powered _ _ ho, outside_rom _ _ ho, outside_time _ _ ho, outside_begun _ _ ho, outside_pending _ _ ho⟩
  csl := outside_csl _ _ ho
  nv := outside_nv _ _ ho
  link := hl
  seals := hs

theorem Aside.sameLinkButNotices (h : Aside s t) : sameLinkButNotices s t := by
  have same := congrArg (fun c : Clp => { c with notices := t.clp.notices, lostNotices := t.clp.lostNotices }) h.link
  exact same

theorem Aside.raise (h : Aside s t) (b : NoticeBody) : Aside s (raise b t) :=
  h.trans (.of_frame (raise_outside t b) (raise_linkOutside t b) (by simp [sealsOf]))

theorem Aside.trigger (h : Aside s t) (src : Source) (again : Bool) : Aside s (trigger src again t) := by
  obtain ⟨ho, hl, hs, -⟩ := trigger_frame t src again
  exact h.trans (.of_frame ho hl hs)

/-- An update of the field link and of the four blocks. -/
theorem Aside.update (s : State) (flm : Flm) (ble : Ble) (tpc : PerTruck Tpc) (am : Am) (es : Es) :
    Aside s { s with flm := flm, ble := ble, tpc := tpc, am := am, es := es } := ⟨⟨rfl, rfl, rfl, rfl, rfl⟩, rfl, rfl, rfl, rfl⟩

theorem BlockKeeps.refl (s : State) : BlockKeeps s s := ⟨.refl s, rfl⟩

theorem BlockKeeps.trans (h : BlockKeeps s t) (k : BlockKeeps t u) : BlockKeeps s u :=
  ⟨h.toAside.trans k.toAside, k.flm.trans h.flm⟩

/-- The last step first, where the steps stand nested. -/
theorem BlockKeeps.after (k : BlockKeeps t u) (h : BlockKeeps s t) : BlockKeeps s u := h.trans k

theorem BlockKeeps.raise (h : BlockKeeps s t) (b : NoticeBody) : BlockKeeps s (raise b t) :=
  ⟨h.toAside.raise b, (raise_flm t b).trans h.flm⟩

theorem BlockKeeps.trigger (h : BlockKeeps s t) (src : Source) (again : Bool) : BlockKeeps s (trigger src again t) :=
  ⟨h.toAside.trigger src again, (trigger_flm t src again).trans h.flm⟩

/-- An update of the four blocks. -/
theorem BlockKeeps.update (s : State) (ble : Ble) (tpc : PerTruck Tpc) (am : Am) (es : Es) :
    BlockKeeps s { s with ble := ble, tpc := tpc, am := am, es := es } := ⟨.update s _ _ _ _ _, rfl⟩

end Aside

section Blocks
variable (s : State)

/-! ### The BLE -/

theorem latchDbFault_block (k : Truck) : BlockKeeps s (latchDbFault k s) := by
  unfold latchDbFault
  dsimp only
  split
  · exact ((BlockKeeps.update s _ _ _ _).raise _).trigger _ _
  · exact .refl s

theorem shortfallSteps_block : BlockKeeps s (shortfallSteps s) := by
  unfold shortfallSteps
  exact ((latchDbFault_block _ .t2).after (latchDbFault_block _ .t1)).after (BlockKeeps.update s _ _ _ _)

theorem bleUpdate_block : BlockKeeps s (bleUpdate s) := by
  unfold bleUpdate
  split
  · exact (shortfallSteps_block s).trans (BlockKeeps.update (shortfallSteps s) _ _ _ _)
  · exact .update s _ _ _ _

/-! ### The TPC -/

theorem setTpc_block (k : Truck) (c : Tpc) : BlockKeeps s (s.setTpc k c) := .update s _ _ _ _

theorem sensorFaultEntry_block (k : Truck) (before : ChannelState) : BlockKeeps s (sensorFaultEntry k before s) := by
  unfold sensorFaultEntry
  split
  · exact ((BlockKeeps.refl s).raise _).trigger _ _
  · exact .refl s

theorem latchChannelFault_block (k : Truck) : BlockKeeps s (latchChannelFault k s) := by
  unfold latchChannelFault
  dsimp only
  split
  · exact ((setTpc_block s k _).raise _).trigger _ _
  · exact .refl s

theorem tpcDecide_block (k : Truck) : BlockKeeps s (tpcDecide k s) := by
  unfold tpcDecide
  dsimp only
  split
  · exact (latchChannelFault_block _ k).after ((setTpc_block _ k _).after
      ((sensorFaultEntry_block _ k _).after (setTpc_block s k _)))
  · exact setTpc_block s k _

/-! ### The AM -/

theorem setSlide_block (k : Truck) (a : TruckSlide) : BlockKeeps s (s.setSlide k a) := .update s _ _ _ _

theorem vrefStep_block : BlockKeeps s (vrefStep s) := by
  unfold vrefStep
  dsimp only
  split
  · split
    · exact (BlockKeeps.update s _ _ _ _).raise _
    · exact .update s _ _ _ _
  · split
    · exact .update s _ _ _ _
    · exact (BlockKeeps.update s _ _ _ _).raise _

theorem forcedReapply_block (k : Truck) : BlockKeeps s (forcedReapply k s) := by
  unfold forcedReapply
  dsimp only
  split
  · exact ((setSlide_block s k _).raise _).trigger _ _
  · exact .refl s

theorem holdEnd_block (k : Truck) : BlockKeeps s (holdEnd k s) := by
  unfold holdEnd
  dsimp only
  split
  · split
    · split <;> exact setSlide_block s k _
    · exact setSlide_block s k _
  · exact .refl s

theorem correctionStep_block (k : Truck) : BlockKeeps s (correctionStep k s) := by
  unfold correctionStep
  dsimp only
  split
  · split
    · exact setSlide_block s k _
    · exact .refl s
  · split <;> exact setSlide_block s k _
  · split
    · exact (forcedReapply_block _ k).after (setSlide_block s k _)
    · exact setSlide_block s k _
  · exact (holdEnd_block _ k).after (setSlide_block s k _)

theorem amUpdate_block (held : Bool) : BlockKeeps s (amUpdate held s) := by
  unfold amUpdate
  split
  · have steps (v : State) : BlockKeeps v (degradedStep (axleStep held s.braking v)) := .update v _ _ _ _
    have ends (v : State) (before : PerTruck Correction) : BlockKeeps v (handSlide (ceilingSandStep before v)) :=
      .update v _ _ _ _
    exact (ends _ _).after ((correctionStep_block _ .t2).after ((correctionStep_block _ .t1).after
      ((steps _).after (vrefStep_block s))))
  · exact .update s _ _ _ _

/-! ### The ES -/

theorem emergencyEnter_block (cause : EntryCause) : BlockKeeps s (emergencyEnter cause s) := by
  unfold emergencyEnter
  exact ((BlockKeeps.update s _ _ _ _).raise _).trigger _ _

theorem repeatCause_block (was now : Bool) : BlockKeeps s (repeatCause was now s) := by
  unfold repeatCause
  split
  · exact (BlockKeeps.refl s).trigger _ _
  · exact .refl s

theorem causeStep_block : BlockKeeps s (causeStep s) := by
  have tests : BlockKeeps s (testStep s) := .update s _ _ _ _
  obtain ⟨-, h⟩ | ⟨-, -, h⟩ | ⟨-, -, -, h⟩ | ⟨-, -, -, h⟩ := causeStep_cases s
  · rw [h]; exact (repeatCause_block _ _ _).after ((repeatCause_block _ _ _).after tests)
  · rw [h]; exact (emergencyEnter_block _ _).after tests
  · rw [h]; exact (emergencyEnter_block _ _).after tests
  · rw [h]; exact tests

theorem exitStep_block : BlockKeeps s (exitStep s) := by
  unfold exitStep
  split
  · exact (BlockKeeps.update s _ _ _ _).raise _
  · exact .refl s

theorem esUpdate_block : BlockKeeps s (esUpdate s) := by
  have first : BlockKeeps s (chargedStep s) := .update s _ _ _ _
  have last (v : State) : BlockKeeps v (historyStep v) := .update v _ _ _ _
  exact (last _).after ((exitStep_block _).after ((causeStep_block _).after first))

/-! ### The blocks one after another -/

theorem run_block (held : Bool) (b : Block) : BlockKeeps s (b.run held s) := by
  cases b
  · exact bleUpdate_block s
  · exact (tpcDecide_block _ .t2).after (tpcDecide_block s .t1)
  · exact amUpdate_block s held
  · exact esUpdate_block s

theorem runBlocks_block (held : Bool) (l : List Block) : BlockKeeps s (runBlocks held l s) := by
  induction l generalizing s with
  | nil => exact .refl s
  | cons b l ih => exact (ih _).after (run_block s held b)

theorem runBlocks_eq_foldl (held : Bool) {f : State → Block → State} (hf : ∀ b u, f u b = b.run held u) (l : List Block) :
    runBlocks held l s = l.foldl f s := by
  induction l generalizing s with
  | nil => rfl
  | cons b l ih =>
    rw [List.foldl_cons, hf]
    exact ih _

end Blocks

/-! ## The FLM's part -/

section FieldLink
variable (s : State)

theorem statusCompare_aside : Aside s (statusCompare s) := by
  unfold statusCompare
  dsimp only
  split
  · exact (Aside.update s _ _ _ _ _).trigger _ _
  · exact .update s _ _ _ _ _

theorem enterUp_aside : Aside s (enterUp s) := by
  unfold enterUp
  dsimp only
  split
  · exact (Aside.update s _ _ _ _ _).raise _
  · exact .update s _ _ _ _ _

theorem linkTransition_aside (good : Bool) : Aside s (linkTransition good s) := by
  unfold linkTransition
  split
  · split
    · exact enterUp_aside s
    · exact .refl s
  · split
    · exact enterUp_aside s
    · exact .refl s
  · split
    · exact .refl s
    · exact .update s _ _ _ _ _
  · split
    · exact .update s _ _ _ _ _
    · split
      · exact ((Aside.update s _ _ _ _ _).raise _).trigger _ _
      · exact .refl s

theorem flmDecision_aside (rx : Inbound) : Aside s (flmDecision rx s) := by
  unfold flmDecision
  dsimp only
  split
  · exact ((Aside.update s _ _ _ _ _).trans (statusCompare_aside _)).trans (linkTransition_aside _ true)
  · exact (Aside.update s _ _ _ _ _).trans (linkTransition_aside _ false)

end FieldLink

/-! ## The order of the blocks (log 6) -/

theorem blockList_perm : ∀ (t : Fin 2) (a : Fin 3) (e : Fin 4),
    List.Perm (blockList ⟨t, a, e⟩) [Block.ble, Block.tpc, Block.am, Block.es] := by decide

theorem blockList_onto : ∀ l ∈ List.permutations' [Block.ble, Block.tpc, Block.am, Block.es],
    ∃ (t : Fin 2) (a : Fin 3) (e : Fin 4), blockList ⟨t, a, e⟩ = l := by decide

/-! ## The statement -/

theorem braking_iff (s : State) : s.braking = true ↔
    ∃ k, 30 < (s.tpc.get k).target ∨ 1000 < (s.ble.trucks.get k).request := by
  simp only [State.braking, Bool.or_eq_true, decide_eq_true_eq]
  constructor
  · rintro (((h | h) | h) | h)
    · exact ⟨.t1, .inl h⟩
    · exact ⟨.t2, .inl h⟩
    · exact ⟨.t1, .inr h⟩
    · exact ⟨.t2, .inr h⟩
  · rintro ⟨_ | _, h | h⟩
    · exact .inl (.inl (.inl h))
    · exact .inl (.inr h)
    · exact .inl (.inl (.inr h))
    · exact .inr h

theorem fieldCycleDecision_open {d : CycleEnd} {s : State} (h : s.flm.phase = .window) :
    fieldCycleDecision d s = cycleDecision d s := if_pos h

theorem fieldCycleDecision_closed {d : CycleEnd} {s : State} (h : s.flm.phase ≠ .window) :
    fieldCycleDecision d s = s := if_neg h

/-- Settles O15. -/
theorem fieldCycleDecided : Obligations.FieldCycleDecided := by
  refine ⟨fun d s hp => ⟨fun h => ⟨cycleDecision d s, effect_of_act_eq rfl hp (fieldCycleDecision_open h), ?_⟩, fun h =>
    effect_of_act_eq rfl hp (fieldCycleDecision_closed h)⟩, fun order h => ?_, fun held s h => ⟨if_pos h, braking_iff s, if_pos h⟩⟩
  · have blocks : BlockKeeps (flmDecision d.rx s) (cycleDecision d s) := runBlocks_block _ _ _
    have aside := (flmDecision_aside s d.rx).trans blocks.toAside
    have ring := congrArg (fun c => c.2.2) aside.seals
    have fill := congrArg (fun c => c.1) aside.seals
    exact ⟨runBlocks_eq_foldl _ d.held (fun b u => by cases b <;> rfl) _, blockList_perm d.order.tpc d.order.am d.order.es,
      blocks.flm, aside.base, aside.csl, aside.nv, aside.sameLinkButNotices, ring, fill⟩
  · obtain ⟨t, a, e, ho⟩ := blockList_onto order (List.mem_permutations'.mpr h)
    exact ⟨⟨t, a, e⟩, ho⟩

end Sys2Proof.Machine

/-! The measurement image, the status compare and the field link's states (R4 to R11, R14 to R16). -/
namespace Sys2Proof.Machine

/-! ## The status compare (R14 to R16) -/

section Compare

/-- A mask and a difference have no bit in common where the two words agree in every bit of the mask. -/
theorem masked_eq_iff (word pattern mask : Word16) : (word ^^^ pattern) &&& mask = 0 ↔
    ∀ i, mask.getLsbD i = true → word.getLsbD i = pattern.getLsbD i := by
  constructor
  · intro h i hm
    have bit := congrArg (fun w : Word16 => w.getLsbD i) h
    simpa [hm] using bit
  · intro h
    refine BitVec.eq_of_getLsbD_eq fun i _ => ?_
    cases hm : mask.getLsbD i with
    | false => simp [hm]
    | true => simp [hm, h i hm]

theorem Flm.matches_iff (f : Flm) : f.matches = true ↔
    f.maskInForce ≠ 0 ∧ ∀ i, f.maskInForce.getLsbD i = true → f.statusWord.getLsbD i = f.compareInForce.getLsbD i := by
  simp only [Flm.matches, Bool.and_eq_true, bne_iff_ne, beq_iff_eq, masked_eq_iff]

variable (s : State)

theorem statusCompare_raised (h : Flm.matchRaises s.flm = true) : statusCompare s =
    trigger .statusMatch false
      { s with flm := { s.flm with lastMatch := Flm.matches s.flm, matchAge := some 0 } } := by
  simp only [statusCompare, h, if_true]

theorem statusCompare_quiet (h : Flm.matchRaises s.flm = false) : statusCompare s =
    { s with flm := { s.flm with lastMatch := Flm.matches s.flm } } := by
  simp only [statusCompare, h, Bool.false_eq_true, if_false]

theorem statusCompare_eq : statusCompare s = if Flm.matchRaises s.flm then
      trigger .statusMatch false { s with flm := { s.flm with lastMatch := Flm.matches s.flm, matchAge := some 0 } }
    else { s with flm := { s.flm with lastMatch := Flm.matches s.flm } } := by
  split
  next h => exact statusCompare_raised s h
  next h => exact statusCompare_quiet s (Bool.eq_false_iff.mpr h)

/-- The compare writes the last-match flag and the match timer. -/
theorem statusCompare_flm : ∃ m a, (statusCompare s).flm = { s.flm with lastMatch := m, matchAge := a } := by
  cases h : Flm.matchRaises s.flm with
  | true => exact ⟨_, _, by rw [statusCompare_raised s h, trigger_flm]⟩
  | false => exact ⟨_, _, by rw [statusCompare_quiet s h]⟩

end Compare

/-- Settles O20. -/
theorem statusCompare_holds : Obligations.StatusCompare :=
  ⟨Flm.matches_iff, statusCompare_eq⟩

/-! ## The link state (R8 to R11) -/

section Link
variable (s : State)

theorem enterUp_of_lost (h : s.flm.link = .lost) : enterUp s = raise (.fieldLinkUp s.flm.counter s.flm.lostCount)
    { s with flm := { s.flm with link := .up, controlActive := true } } := by
  simp only [enterUp, h, beq_self_eq_true, if_true]

theorem enterUp_of_start (h : s.flm.link = .start) :
    enterUp s = { s with flm := { s.flm with link := .up, controlActive := true } } := by
  have other : (LinkState.start == LinkState.lost) = false := by decide
  simp only [enterUp, h, other, Bool.false_eq_true, if_false]

theorem enterUp_flm : (enterUp s).flm = { s.flm with link := .up, controlActive := true } := by
  unfold enterUp
  dsimp only
  split
  · rw [raise_flm]
  · rfl

theorem enterLost_flm : (enterLost s).flm = { s.flm with link := .lost, lostCount := 0, controlActive := false } := by
  unfold enterLost
  rw [trigger_flm, raise_flm]

/-- With the link START or LOST a good cycle enters UP at the 8th in a row. -/
theorem linkTransition_down (good : Bool) (h : s.flm.link = .start ∨ s.flm.link = .lost) : linkTransition good s =
    if good && decide (8 ≤ s.flm.goodRun) then enterUp s else s := by
  obtain h | h := h <;> simp only [linkTransition, h]

theorem linkTransition_up (good : Bool) (h : s.flm.link = .up) : linkTransition good s =
    if good then s else { s with flm := { s.flm with link := .degraded } } := by
  simp only [linkTransition, h]

theorem linkTransition_degraded (good : Bool) (h : s.flm.link = .degraded) : linkTransition good s =
    if good then { s with flm := { s.flm with link := .up } } else if 3 ≤ s.flm.badRun then enterLost s else s := by
  simp only [linkTransition, h]

/-- The transition writes the link state, CONTROL_ACTIVE and, at an entry to LOST, the lost-cycle count. -/
theorem linkTransition_flm (good : Bool) : ∃ l c n,
    (linkTransition good s).flm = { s.flm with link := l, controlActive := c, lostCount := n } ∧
    (n = s.flm.lostCount ∧ (l = .lost → s.flm.link = .lost) ∨ n = 0 ∧ l = .lost ∧ s.flm.link ≠ .lost) := by
  have kept : ∃ l c n, s.flm = { s.flm with link := l, controlActive := c, lostCount := n } ∧
      (n = s.flm.lostCount ∧ (l = .lost → s.flm.link = .lost) ∨ n = 0 ∧ l = .lost ∧ s.flm.link ≠ .lost) :=
    ⟨_, _, _, rfl, .inl ⟨rfl, id⟩⟩
  cases hl : s.flm.link
  case start =>
    rw [linkTransition_down s good (.inl hl)]
    split
    · exact ⟨_, _, _, enterUp_flm s, .inl ⟨rfl, nofun⟩⟩
    · rwa [hl] at kept
  case up =>
    rw [linkTransition_up s good hl]
    split
    · rwa [hl] at kept
    · exact ⟨_, _, _, rfl, .inl ⟨rfl, nofun⟩⟩
  case degraded =>
    rw [linkTransition_degraded s good hl]
    split
    · exact ⟨_, _, _, rfl, .inl ⟨rfl, nofun⟩⟩
    · split
      · exact ⟨_, _, _, enterLost_flm s, .inr ⟨rfl, rfl, nofun⟩⟩
      · rwa [hl] at kept
  case lost =>
    rw [linkTransition_down s good (.inr hl)]
    split
    · exact ⟨_, _, _, enterUp_flm s, .inl ⟨rfl, nofun⟩⟩
    · rwa [hl] at kept

end Link

/-! ## The FLM's part of a decision (R3 to R7) -/

section Decision
variable (s : State)

/-- The FLM after the counts of R7. -/
def Flm.counted (good : Bool) (f : Flm) : Flm :=
  { f with
    phase := .decided
    lostCount := if f.link = .lost then f.lostCount + 1 else f.lostCount
    goodRun := if good then min 255 (f.goodRun + 1) else 0
    badRun := if good then 0 else min 255 (f.badRun + 1) }

theorem countLost_eq (f : Flm) : countLost f =
    { f with lostCount := if f.link = .lost then f.lostCount + 1 else f.lostCount } := by
  unfold countLost
  split <;> rfl

/-- The state of a good cycle before its compare and transition: counts, image and status word. -/
def goodCycle (slots : List Word16) (s : State) : State :=
  { s with flm := { Flm.counted true s.flm with
      image := imageGood s.flm.mapInForce slots s.flm.image
      statusWord := slots.getD 0 0 } }

/-- The state of a bad cycle before its transition: counts and image. -/
def badCycle (s : State) : State :=
  { s with flm := { Flm.counted false s.flm with image := s.flm.image.map channelBad } }

theorem flmDecision_good {rx : Inbound} {slots : List Word16} (h : goodSlots s.flm.counter rx = some slots) :
    flmDecision rx s = linkTransition true (statusCompare (goodCycle slots s)) := by
  simp only [flmDecision, countLost_eq, h]
  rfl

theorem flmDecision_bad {rx : Inbound} (h : goodSlots s.flm.counter rx = none) : flmDecision rx s =
    linkTransition false (badCycle s) := by
  simp only [flmDecision, countLost_eq, h]
  rfl

/-- A decision is the link transition on a state with the link as before and the counts of the cycle. -/
theorem flmDecision_transition (rx : Inbound) : ∃ u, flmDecision rx s =
    linkTransition (goodSlots s.flm.counter rx).isSome u ∧ u.flm.link = s.flm.link ∧
    u.flm.lostCount = (Flm.counted (goodSlots s.flm.counter rx).isSome s.flm).lostCount ∧
    u.flm.goodRun = (Flm.counted (goodSlots s.flm.counter rx).isSome s.flm).goodRun ∧
    u.flm.badRun = (Flm.counted (goodSlots s.flm.counter rx).isSome s.flm).badRun := by
  cases h : goodSlots s.flm.counter rx with
  | none => exact ⟨_, flmDecision_bad s h, rfl, rfl, rfl, rfl⟩
  | some slots =>
    obtain ⟨m, a, compared⟩ := statusCompare_flm (goodCycle slots s)
    refine ⟨_, flmDecision_good s h, ?_, ?_, ?_, ?_⟩ <;> rw [compared] <;> rfl

theorem imageGood_eq {map : List Nat} {slots : List Word16} {image : List Channel} (h : image.length = 17) :
    imageGood map slots image = (List.range 17).map (fun n =>
      channelGood slots n (map.getD n 0) (image.getD n ⟨0, .invalid, 0⟩)) := by
  refine List.ext_getElem? fun n => ?_
  simp only [imageGood, List.getElem?_map, List.getElem?_zipIdx, List.range_eq_range']
  by_cases hn : n < 17
  · have lt : n < image.length := h ▸ hn
    simp [hn, lt]
  · have le : image.length ≤ n := h ▸ Nat.le_of_not_lt hn
    simp [hn, le]

end Decision

/-- Settles O16. -/
theorem goodCycleUpdatesImage : Obligations.GoodCycleUpdatesImage := by
  intro slots s hi hs rx t taken
  have good : goodSlots s.flm.counter rx = some slots := if_pos ⟨hs, rfl, rfl⟩
  have decided : t = linkTransition true (statusCompare (goodCycle slots s)) := flmDecision_good s good
  have image : imageGood s.flm.mapInForce slots s.flm.image = (List.range 17).map taken := imageGood_eq hi
  obtain ⟨l, c, n, link, -⟩ := linkTransition_flm (statusCompare (goodCycle slots s)) true
  obtain ⟨m, a, compare⟩ := statusCompare_flm (goodCycle slots s)
  rw [compare, ← decided, goodCycle, image] at link
  rw [goodCycle, image] at decided
  refine ⟨fun n hn => ?_, by rw [link], by rw [link]; rfl, by rw [link]; rfl, by rw [link]; rfl, decided⟩
  simp only [State.chan, link]
  simp [hn]

/-- Settles O17. -/
theorem badCycleAgesImage : Obligations.BadCycleAgesImage := by
  intro rx s bad t
  have decided : t = linkTransition false (badCycle s) := flmDecision_bad s bad
  obtain ⟨l, c, n, link, -⟩ := linkTransition_flm (badCycle s) false
  rw [← decided] at link
  have image : t.flm.image = s.flm.image.map channelBad := by rw [link]; rfl
  refine ⟨fun n hn => ?_, by rw [link]; rfl, by rw [link]; rfl, ?_, ?_⟩
  · have aged : t.chan n = channelBad (s.chan n) := by simp [State.chan, image, hn]
    rw [aged]
    generalize s.chan n = c
    obtain ⟨value, validity, age⟩ := c
    refine ⟨?_, ?_, ?_, ?_⟩
    · rintro rfl; rfl
    · rintro rfl rfl; rfl
    · rintro rfl rfl; rfl
    · rintro rfl; rfl
  · rw [image, List.length_map]
  · rw [image]
    exact decided

/-- The 8th good cycle in a row takes the link to UP. -/
theorem flmDecision_enters_up (s : State) (rx : Inbound) (hl : s.flm.link = .start ∨ s.flm.link = .lost)
    (hg : s.flm.goodRun = 7) (hr : (goodSlots s.flm.counter rx).isSome = true) :
    ∃ u : Flm, (flmDecision rx s).flm = { u with link := .up, controlActive := true } := by
  obtain ⟨u, hu, link, -, run, -⟩ := flmDecision_transition s rx
  rw [hr] at hu run
  have due : (true && decide (8 ≤ u.flm.goodRun)) = true := by rw [run, Flm.counted, hg]; rfl
  rw [hu, linkTransition_down u true (link ▸ hl), if_pos due, enterUp_flm]
  exact ⟨_, rfl⟩

/-- The 3rd bad cycle in a row takes a DEGRADED link to LOST. -/
theorem flmDecision_enters_lost (s : State) (rx : Inbound) (hl : s.flm.link = .degraded) (hb : s.flm.badRun = 2)
    (hr : goodSlots s.flm.counter rx = none) :
    ∃ u : Flm, (flmDecision rx s).flm = { u with link := .lost, lostCount := 0, controlActive := false } := by
  obtain ⟨u, hu, link, -, -, run⟩ := flmDecision_transition s rx
  rw [hr] at hu run
  have due : 3 ≤ u.flm.badRun := by rw [run, Flm.counted, hb]; exact Nat.le_refl 3
  rw [hu, linkTransition_degraded u _ (link.trans hl), if_neg (by decide), if_pos due, enterLost_flm]
  exact ⟨_, rfl⟩

/-- The blocks leave the field link as the FLM's part left it. -/
theorem cycleDecision_flm (d : CycleEnd) (s : State) : (cycleDecision d s).flm = (flmDecision d.rx s).flm :=
  (runBlocks_block _ d.held _).flm

/-- Settles O18. -/
theorem linkTransitionsAndEvents : Obligations.LinkTransitionsAndEvents := by
  refine ⟨fun s => ⟨fun h => ?_, fun h => ?_, fun h => ?_, fun h => ?_⟩, fun d s hp hw => ⟨fun hl hg hr => ?_, fun hl hb hr => ?_⟩,
    fun rx s => ?_⟩
  · simp only [linkTransition_down s _ (.inl h), enterUp_of_start s h]
    exact ⟨rfl, fun lt => if_neg (by simpa using lt), fun le => if_pos (by simpa using le)⟩
  · simp only [linkTransition_up s _ h]
    exact ⟨rfl, rfl⟩
  · simp only [linkTransition_degraded s _ h]
    exact ⟨rfl, fun lt => if_neg (Nat.not_le.mpr lt), fun le => if_pos le⟩
  · simp only [linkTransition_down s _ (.inr h), enterUp_of_lost s h]
    exact ⟨rfl, fun lt => if_neg (by simpa using lt), fun le => if_pos (by simpa using le)⟩
  · obtain ⟨u, entered⟩ := flmDecision_enters_up s d.rx hl hg hr
    have up : (cycleDecision d s).flm = _ := (cycleDecision_flm d s).trans entered
    have falls : linkUpOccurs s (fieldCycleDecision d s) = true := by
      rw [linkUpOccurs, (not_connected_iff _).mpr hl, fieldCycleDecision_open hw, up]
      rfl
    exact ⟨_, effect_of_act_eq rfl hp ((decisionWith_occurs falls).trans (fieldCycleDecision_open hw)), rfl, by rw [up],
      by rw [up]⟩
  · obtain ⟨u, entered⟩ := flmDecision_enters_lost s d.rx hl hb hr
    have lost : (cycleDecision d s).flm = _ := (cycleDecision_flm d s).trans entered
    have falls : linkLostOccurs s (fieldCycleDecision d s) = true := by
      rw [linkLostOccurs, hl, fieldCycleDecision_open hw, lost]
      rfl
    exact ⟨_, effect_of_act_eq rfl hp ((decisionWith_occurs falls).trans (fieldCycleDecision_open hw)), rfl, by rw [lost],
      by rw [lost], by rw [lost]⟩
  · obtain ⟨u, hu, link, count, -, -⟩ := flmDecision_transition s rx
    obtain ⟨l, c, n, flm, moves⟩ := linkTransition_flm u (goodSlots s.flm.counter rx).isSome
    dsimp only
    rw [hu, flm]
    rw [link, count, Flm.counted] at moves
    dsimp only at moves ⊢
    obtain ⟨hn, hl⟩ | ⟨hn, hl, hs⟩ := moves
    · rw [hn]
      exact ⟨fun h => if_pos h, fun h h' => absurd (hl h') h, fun h _ => if_neg h⟩
    · exact ⟨fun h => absurd h hs, fun _ _ => hn, fun _ h => absurd hl h⟩

end Sys2Proof.Machine

/-! Blending (R19 to R31): the inputs as the BLE counts them, the capacity of a truck, the DB curve, and what a recompute reads
that the shortfall steps before it leave. -/
namespace Sys2Proof.Machine

/-! ## Inputs (R20 to R22) -/

theorem Channel.usable_invalid {c : Channel} (d : Nat) (h : c.validity = .invalid) : c.usable d = d := if_pos h

theorem Channel.usable_counted {c : Channel} (d : Nat) (h : c.validity ≠ .invalid) : c.usable d = c.value := if_neg h

section Inputs
variable (s : State)

theorem reduction_full (h : s.es.penalty = true ∨ (s.chan 9).validity = .invalid) : s.reduction = 150 := by
  unfold State.reduction
  obtain h | h := h
  · exact if_pos h
  · rw [if_pos h, ite_self]

theorem reduction_pipe (hp : s.es.penalty = false) (hv : (s.chan 9).validity ≠ .invalid) :
    s.reduction = min 150 (s.clp.working.pipeNominal - (s.chan 9).value) := by
  rw [State.reduction, hp, if_neg Bool.false_ne_true, if_neg hv]

theorem following_iff : s.following = true ↔ s.csl.role = .trail ∧ s.csl.follow = some .following := by
  simp [State.following]

theorem leading_iff : s.leading = true ↔ s.csl.role = .lead ∧ s.csl.conflict = false := by
  simp [State.leading]

end Inputs

/-! ## Capacity (R24) -/

section Capacity
variable (k : Truck) (s : State)

theorem barred_iff : s.barred k = true ↔ s.effectiveMaster = false ∨ (s.ble.trucks.get k).enable = false ∨
    (s.ble.trucks.get k).dbFault = true := by
  simp [State.barred, or_assoc]

theorem capacityOf_barred (h : s.barred k = true) : s.capacityOf k = 0 := by
  simp only [State.capacityOf, h, Bool.true_or, if_true]

theorem capacityOf_invalid (h : (s.chan k.availChannel).validity = .invalid) : s.capacityOf k = 0 := by
  simp only [State.capacityOf, h, beq_self_eq_true, Bool.or_true, if_true]

theorem capacityOf_open (hb : s.barred k = false) (hv : (s.chan k.availChannel).validity ≠ .invalid) : s.capacityOf k =
    if (s.am.trucks.get k).correction = .dumping then (s.am.trucks.get k).onsetRequest / 20
    else if (s.ble.trucks.get k).shortfall = .shortfall then min (s.openCapacity k) (s.achieved k) else s.openCapacity k := by
  simp only [State.capacityOf, hb, beq_eq_false_iff_ne.mpr hv, Bool.or_self, Bool.false_eq_true, if_false]

theorem openCapacity_open (hb : s.barred k = false) : s.openCapacity k =
    Ceiling.bound (s.am.trucks.get k).ceiling (min (s.curveTerm k) (s.available k)) := by
  simp only [State.openCapacity, hb, Bool.false_eq_true, if_false]

/-- Case 3 of R24: the capacity is the least of its terms. -/
theorem capacityOf_least (hb : s.barred k = false) (hd : (s.am.trucks.get k).correction ≠ .dumping) :
    s.capacityOf k ≤ s.curveTerm k ∧ s.capacityOf k ≤ s.available k ∧
      (∀ c, (s.am.trucks.get k).ceiling = .finite c → s.capacityOf k ≤ c / 10) ∧
      ((s.ble.trucks.get k).shortfall = .shortfall → s.capacityOf k ≤ s.achieved k) ∧
      (s.capacityOf k = s.curveTerm k ∨ s.capacityOf k = s.available k ∨
        (∃ c, (s.am.trucks.get k).ceiling = .finite c ∧ s.capacityOf k = c / 10) ∨
        (s.ble.trucks.get k).shortfall = .shortfall ∧ s.capacityOf k = s.achieved k) := by
  by_cases hv : (s.chan k.availChannel).validity = .invalid
  · have none : s.available k = 0 := if_pos hv
    rw [capacityOf_invalid k s hv, none]
    exact ⟨Nat.zero_le _, Nat.le_refl 0, fun _ _ => Nat.zero_le _, fun _ => Nat.zero_le _, .inr (.inl rfl)⟩
  · rw [capacityOf_open k s hb hv, if_neg hd, openCapacity_open k s hb]
    have least (n : Nat) (hn : Ceiling.bound (s.am.trucks.get k).ceiling (min (s.curveTerm k) (s.available k)) = n) :
        n ≤ s.curveTerm k ∧ n ≤ s.available k ∧ (∀ c, (s.am.trucks.get k).ceiling = .finite c → n ≤ c / 10) ∧
        (n = s.curveTerm k ∨ n = s.available k ∨ ∃ c, (s.am.trucks.get k).ceiling = .finite c ∧ n = c / 10) := by
      cases hc : (s.am.trucks.get k).ceiling with
      | unlimited =>
        simp only [hc, Ceiling.bound] at hn
        simp
        omega
      | finite c =>
        simp only [hc, Ceiling.bound] at hn
        simp
        omega
    obtain ⟨curve, avail, ceiling, one⟩ := least _ rfl
    split
    next hs =>
      refine ⟨Nat.le_trans (Nat.min_le_left _ _) curve, Nat.le_trans (Nat.min_le_left _ _) avail,
        fun c hc => Nat.le_trans (Nat.min_le_left _ _) (ceiling c hc), fun _ => Nat.min_le_right _ _, ?_⟩
      obtain h | h := Nat.le_total (Ceiling.bound (s.am.trucks.get k).ceiling (min (s.curveTerm k) (s.available k)))
        (s.achieved k)
      · rw [Nat.min_eq_left h]
        exact one.imp_right (Or.imp_right .inl)
      · exact .inr (.inr (.inr ⟨hs, Nat.min_eq_right h⟩))
    next hs => exact ⟨curve, avail, ceiling, fun h => absurd h hs, one.imp_right (Or.imp_right .inl)⟩

end Capacity

/-! ## The DB curve (R23) -/

section Curve

theorem curveFrac_first (p : Nat × Nat) (rest : List (Nat × Nat)) {v : Nat} (h : v ≤ p.1) :
    curveFrac (p :: rest) v = (p.2, 1) := by
  cases rest with
  | nil => rfl
  | cons q rest => exact if_pos h

theorem curveFrac_next {p q : Nat × Nat} (rest : List (Nat × Nat)) {v : Nat} (hp : p.1 < v) (hq : q.1 ≤ v) :
    curveFrac (p :: q :: rest) v = curveFrac (q :: rest) v := by
  rw [curveFrac, if_neg (Nat.not_le.mpr hp), if_neg (Nat.not_lt.mpr hq)]

/-- On a rising curve the points before one at or below the speed play no part. -/
theorem curveFrac_skip {front rest : List (Nat × Nat)} {p : Nat × Nat} {v : Nat}
    (h : (front ++ p :: rest).Pairwise (fun p q => p.1 < q.1)) (hp : p.1 ≤ v) :
    curveFrac (front ++ p :: rest) v = curveFrac (p :: rest) v := by
  induction front with
  | nil => rfl
  | cons x front ih =>
    obtain ⟨hx, rising⟩ := List.pairwise_cons.mp h
    have first : x.1 < v := Nat.lt_of_lt_of_le (hx p (by simp)) hp
    rw [← ih rising]
    cases front with
    | nil => exact curveFrac_next rest first hp
    | cons y front =>
      have next : y.1 < p.1 := (List.pairwise_cons.mp rising).1 p (by simp)
      exact curveFrac_next _ first (Nat.le_trans (Nat.le_of_lt next) hp)

theorem curveFrac_last {front : List (Nat × Nat)} {p : Nat × Nat} {v : Nat}
    (h : (front ++ [p]).Pairwise (fun p q => p.1 < q.1)) (hp : p.1 ≤ v) : curveFrac (front ++ [p]) v = (p.2, 1) :=
  curveFrac_skip h hp

/-- The divisor of the curve term (R23). -/
def State.curveShare (s : State) (k : Truck) : Nat :=
  if s.am.known = false ∨ (s.am.trucks.get k).degraded = true then 2 else 1

theorem curveTerm_eq (k : Truck) (s : State) : s.curveTerm k =
    (curveFrac s.clp.working.dbCurve s.vrefCenti).1 /
      (s.curveShare k * (curveFrac s.clp.working.dbCurve s.vrefCenti).2) := by
  simp only [State.curveTerm, State.curveShare, Bool.or_eq_true, Bool.not_eq_true']
  split
  · rfl
  · rw [Nat.one_mul]

theorem curveTerm_at {k : Truck} {s : State} {n : Nat} (h : curveFrac s.clp.working.dbCurve s.vrefCenti = (n, 1)) :
    s.curveTerm k = n / s.curveShare k := by
  rw [curveTerm_eq, h, Nat.mul_one]

end Curve

/-- Settles O21. -/
theorem demandAndCapacity : Obligations.DemandAndCapacity := by
  refine ⟨fun s => ⟨reduction_full s, reduction_pipe s, rfl, fun h => ?_, fun h => ?_, rfl⟩,
    fun k s => ⟨fun h => capacityOf_barred k s ((barred_iff k s).mpr h), capacityOf_invalid k s, fun hm he hf hd hv => ?_,
      fun hm he hf hd => ?_, rfl, rfl⟩,
    fun k s => ⟨fun p rest hc hv => ?_, fun rising => ⟨fun rest p hc hv => ?_, fun front p q rest hc hp hq => ?_⟩⟩⟩
  · rw [State.eDhNow, Channel.usable_invalid 0 h, Nat.zero_mul, Nat.zero_div]
  · rw [State.eDhNow, Channel.usable_counted 0 h]
  · have free : s.barred k = false := by simp [State.barred, hm, he, hf]
    rw [capacityOf_open k s free hv, if_pos hd]
  · exact capacityOf_least k s (by simp [State.barred, hm, he, hf]) hd
  · exact curveTerm_at (by rw [hc]; exact curveFrac_first p rest hv)
  · exact curveTerm_at (by rw [hc]; exact curveFrac_last (hc ▸ rising) hv)
  · have at_pair := curveFrac_skip (hc ▸ rising) hp
    obtain eq | lt := Nat.eq_or_lt_of_le hp
    · have first : s.curveTerm k = p.2 / s.curveShare k :=
        curveTerm_at (by rw [hc, State.vrefCenti, at_pair]; exact curveFrac_first p _ (Nat.le_of_eq eq.symm))
      rw [first, ← eq, Nat.sub_self, Nat.mul_zero, Nat.add_zero]
      exact (Nat.mul_div_mul_right _ _ (by omega)).symm
    · rw [curveTerm_eq, hc, State.vrefCenti, at_pair, curveFrac, if_neg (Nat.not_le.mpr lt), if_pos hq]
      rfl

end Sys2Proof.Machine

/-! A recompute of the BLE (R19 to R32): its terms on the state before the shortfall steps, each truck after it, and the statements
on shares, requests, air targets and the blend state. -/
namespace Sys2Proof.Machine

/-! ## What a recompute reads is as before the shortfall steps -/

namespace KeepsBraking
variable {s t : State} (h : KeepsBraking s t)
include h

theorem chan (n : Nat) : t.chan n = s.chan n := by simp only [State.chan, h.flm]

theorem achieved (k : Truck) : t.achieved k = s.achieved k := by simp only [State.achieved, h.chan]

theorem leading : t.leading = s.leading := by simp only [State.leading, h.csl]

theorem following : t.following = s.following := by simp only [State.following, h.csl]

theorem followInUse : t.followInUse = s.followInUse := by simp only [State.followInUse, h.following, h.follow]

theorem othersCapacity : t.othersCapacity = s.othersCapacity := by simp only [State.othersCapacity, h.leading, h.csl]

theorem bail : t.bail = s.bail := by simp only [State.bail, h.following, h.follow, h.chan]

theorem indepNow : t.indepNow = s.indepNow := by simp only [State.indepNow, h.followInUse, h.chan]

theorem eAutoNow : t.eAutoNow = s.eAutoNow := by simp only [State.eAutoNow, State.reduction, h.es, h.chan, h.working]

theorem dDemNow : t.dDemNow = s.dDemNow := by
  simp only [State.dDemNow, State.eDhNow, h.eAutoNow, h.chan, h.working]

theorem airCapable (k : Truck) : t.airCapable k = s.airCapable k := by simp only [State.airCapable, h.tpc]

theorem ownAirTrucks : t.ownAirTrucks = s.ownAirTrucks := by simp only [State.ownAirTrucks, h.airCapable]

theorem countedTrucks : t.countedTrucks = s.countedTrucks := by
  simp only [State.countedTrucks, h.ownAirTrucks, h.leading, h.csl]

theorem airPerTruck (n : Nat) : t.airPerTruck n = s.airPerTruck n := by
  simp only [State.airPerTruck, h.followInUse, h.countedTrucks, h.working]

theorem airCap (k : Truck) (n : Nat) : t.airCap k n = s.airCap k n := by simp only [State.airCap, h.am, h.working]

theorem ownShare (own : Nat) : t.ownShare own = s.ownShare own := by
  simp only [State.ownShare, h.followInUse, h.dDemNow, h.othersCapacity]

theorem dAssignNow (own : Nat) : t.dAssignNow own = s.dAssignNow own := by
  simp only [State.dAssignNow, h.followInUse, h.dDemNow, h.othersCapacity]

theorem aFillNow (own : Nat) : t.aFillNow own = s.aFillNow own := by
  simp only [State.aFillNow, h.followInUse, h.bail, h.eAutoNow, h.dDemNow, h.othersCapacity, h.ownAirTrucks, h.working]

theorem shareSet (dAssign total pressure : Nat) : t.shareSet dAssign total pressure = s.shareSet dAssign total pressure := by
  simp only [State.shareSet, h.leading, h.csl, h.chan, h.es, h.bail, h.master]

end KeepsBraking

/-! ## The terms of a recompute -/

section Terms
variable (s : State)

theorem followInUse_of_following (h : s.following = true) : s.followInUse = s.ble.follow := if_pos h

theorem followInUse_of_not (h : s.following = false) : s.followInUse = none := by
  simp only [State.followInUse, h, Bool.false_eq_true, if_false]

/-- A unit that leads does not follow. -/
theorem followInUse_of_leading (h : s.leading = true) : s.followInUse = none := by
  refine followInUse_of_not s (Bool.eq_false_iff.mpr fun follows => ?_)
  obtain ⟨lead, -⟩ := (leading_iff s).mp h
  obtain ⟨trail, -⟩ := (following_iff s).mp follows
  rw [lead] at trail
  cases trail

theorem airCapable_iff (k : Truck) : s.airCapable k = true ↔ (s.tpc.get k).state ≠ .fault := by simp [State.airCapable]

theorem airCapable_toNat (k : Truck) : (s.airCapable k).toNat = if (s.tpc.get k).state = .fault then 0 else 1 := by
  unfold State.airCapable
  split
  next h => simp [h]
  next h => simp [h]

theorem effectiveMaster_of_following (h : s.following = true) : s.effectiveMaster = true ↔
    s.ble.master = true ∧ ∃ f, s.ble.follow = some f ∧ f.master = true := by
  simp [State.effectiveMaster, h, Option.any_eq_true]

theorem effectiveMaster_of_not (h : s.following = false) : s.effectiveMaster = s.ble.master := by
  simp only [State.effectiveMaster, h, Bool.false_eq_true, if_false]

theorem bail_of_following (h : s.following = true) : s.bail = true ↔ ∃ f, s.ble.follow = some f ∧ f.bail = true := by
  simp [State.bail, h, Option.any_eq_true]

theorem bail_of_not (h : s.following = false) : s.bail = true ↔ (s.chan 12).validity ≠ .invalid ∧ (s.chan 12).value = 1 := by
  simp only [State.bail, h, Bool.false_eq_true, if_false, beq_iff_eq]
  by_cases hv : (s.chan 12).validity = .invalid
  · simp [Channel.usable_invalid 0 hv, hv]
  · simp [Channel.usable_counted 0 hv, hv]

theorem ownShare_of_none (own : Nat) (h : s.followInUse = none) : s.ownShare own =
    portion (min s.dDemNow (own + s.othersCapacity)) own (own + s.othersCapacity) := by
  simp only [State.ownShare, h]

theorem ownShare_of_some (own : Nat) {f : FollowInputs} (h : s.followInUse = some f) : s.ownShare own = min f.share own := by
  simp only [State.ownShare, h]

theorem airPerTruck_of_none (n : Nat) (h : s.followInUse = none) : s.airPerTruck n =
    (portion n 1 s.countedTrucks, portion n 1 s.countedTrucks * 100 / s.clp.working.airGain) := by
  simp only [State.airPerTruck, h]

theorem airPerTruck_of_some (n : Nat) {f : FollowInputs} (h : s.followInUse = some f) : s.airPerTruck n =
    ((if f.bail then 0 else f.fill) * s.clp.working.airGain / 100, if f.bail then 0 else f.fill) := by
  simp only [State.airPerTruck, h]

theorem Entry.airTrucks_of_active {e : Entry} {l : LastStatus} (ha : e.state = .active) (hl : e.last = some l) : e.airTrucks =
    if l.flags.failsafe then 0 else (if l.flags.fault.t1 then 0 else 1) + (if l.flags.fault.t2 then 0 else 1) := by
  simp only [Entry.airTrucks, ha, hl, if_true]
  cases l.flags.fault.t1 <;> cases l.flags.fault.t2 <;> rfl

end Terms

/-! ## A truck after a recompute -/

section Recompute

/-- The capacity of both trucks together. -/
def State.ownCapacity (s : State) : Nat := s.capacityOf .t1 + s.capacityOf .t2

/-- The state of a recompute after the shortfall steps `u`. -/
def computed (u : State) : State := handClaims { u with ble := bleQuantities u }

theorem bleRecompute_computed (s : State) : ∃ u, KeepsBraking s u ∧ bleRecompute s = computed u :=
  ⟨shortfallSteps s, shortfallSteps_keeps s, rfl⟩

theorem computed_truck_self (k : Truck) (u : State) : (computed u).ble.trucks.get k =
    truckRecompute u u.ownCapacity (u.airPerTruck (u.aFillNow u.ownCapacity)).1
      (u.airPerTruck (u.aFillNow u.ownCapacity)).2 k := by cases k <;> rfl

theorem computed_capacity (k : Truck) (u : State) : ((computed u).ble.trucks.get k).capacity = u.capacityOf k := by
  rw [computed_truck_self]
  rfl

variable {s u : State} (h : KeepsBraking s u)
include h

theorem computed_dDem : (computed u).ble.dDem = s.dDemNow := h.dDemNow

theorem computed_eAuto : (computed u).ble.eAuto = s.eAutoNow := h.eAutoNow

theorem computed_dAssign : (computed u).ble.dAssign = s.dAssignNow u.ownCapacity := h.dAssignNow _

theorem computed_aFill : (computed u).ble.aFill = s.aFillNow u.ownCapacity := h.aFillNow _

theorem computed_truck (k : Truck) : (computed u).ble.trucks.get k =
    truckRecompute u u.ownCapacity (s.airPerTruck (computed u).ble.aFill).1 (s.airPerTruck (computed u).ble.aFill).2 k := by
  rw [computed_truck_self, ← h.airPerTruck]
  rfl

theorem computed_total (hf : s.followInUse = none) : (computed u).ble.capacity = u.ownCapacity + s.othersCapacity := by
  have total : (computed u).ble.capacity = if u.followInUse.isSome then u.ownCapacity
    else u.ownCapacity + u.othersCapacity := rfl
  rw [total, h.followInUse, hf, h.othersCapacity]
  rfl

theorem computed_dynTarget (k : Truck) : ((computed u).ble.trucks.get k).dynTarget =
    portion (s.ownShare u.ownCapacity) ((computed u).ble.trucks.get k).capacity u.ownCapacity := by
  rw [computed_capacity, computed_truck h, ← h.ownShare]
  rfl

theorem computed_offered : (computed u).ble.offered = s.shareSet (computed u).ble.dAssign (computed u).ble.capacity
    (s.airPerTruck (computed u).ble.aFill).2 := by
  rw [← h.shareSet, ← h.airPerTruck]
  rfl

theorem computed_limited (k : Truck) : ((computed u).ble.trucks.get k).limited =
    if (s.tpc.get k).state = .fault then 0
    else ((s.airPerTruck (computed u).ble.aFill).1 * 100 -
      ((computed u).ble.trucks.get k).computedAir * s.clp.working.airGain) / 100 := by
  rw [computed_truck h]
  simp only [truckRecompute, h.airCapable, airCapable_iff, h.working, ite_not]

theorem computed_blend : (computed u).ble.blend = shownBlend s.es.latch (computed u).ble.trucks := by
  rw [← h.es]
  rfl

theorem computed_handover : (computed u).ble.handover =
    ⟨(computed u).ble.trucks.t1.capacity + (computed u).ble.trucks.t2.capacity, s.achieved .t1 + s.achieved .t2,
      (computed u).ble.blend, ⟨s.tpc.t1.state == .fault, s.tpc.t2.state == .fault⟩⟩ := by
  have fault (k : Truck) : (!u.airCapable k) = ((s.tpc.get k).state == .fault) := by
    rw [h.airCapable, State.airCapable, bne, Bool.not_not]
  have fault1 : (!u.airCapable .t1) = (s.tpc.t1.state == .fault) := fault .t1
  have fault2 : (!u.airCapable .t2) = (s.tpc.t2.state == .fault) := fault .t2
  rw [← fault1, ← fault2, ← h.achieved, ← h.achieved]
  rfl

end Recompute

/-- Settles O22. -/
theorem sharesStayWithinCapacity : Obligations.SharesStayWithinCapacity := by
  refine ⟨fun _ _ _ => rfl, fun e => ⟨fun h => ?_, fun h hl => ?_, fun l h hl => ?_⟩, fun s => ?_, fun own s h => ?_,
    fun own f s h => ⟨ownShare_of_some s own h, fun mine _ => targetOf_le s mine own⟩, fun s => ?_⟩
  · simp [Entry.counted, Entry.airTrucks, h]
  · simp [Entry.counted, Entry.airTrucks, h, hl]
  · exact ⟨by simp [Entry.counted, h, hl], Entry.airTrucks_of_active h hl⟩
  · refine ⟨leading_iff s, by rw [State.ownAirTrucks, airCapable_toNat, airCapable_toNat], rfl, fun h => ?_, fun h => ?_⟩
    · have follows := (following_iff s).mpr h
      exact ⟨followInUse_of_following s follows, effectiveMaster_of_following s follows, bail_of_following s follows⟩
    · have not := Bool.eq_false_iff.mpr ((following_iff s).not.mpr h)
      exact ⟨followInUse_of_not s not, effectiveMaster_of_not s not, bail_of_not s not⟩
  · refine ⟨ownShare_le s own, fun mine _ => targetOf_le s mine own, fun hl => ⟨fun e _ => ?_, ?_⟩, Nat.min_le_right _ _,
      Nat.min_le_left _ _⟩
    · exact portion_le_part _ _ _ (Nat.min_le_right _ _)
    · have others : s.othersCapacity = (s.csl.roster.map Entry.counted).sum := if_pos hl
      rw [ownShare_of_none s own h]
      exact portion_sum_le _ _ Entry.counted s.csl.roster own (by rw [others])
  · obtain ⟨u, keeps, recomputed⟩ := bleRecompute_computed s
    rw [recomputed]
    intro t counted own total share effort
    have share_eq : s.ownShare u.ownCapacity = share := by
      cases hf : s.followInUse with
      | none =>
        simp only [share, hf, t, computed_dDem keeps]
        exact ownShare_of_none s _ hf
      | some f =>
        simp only [share, hf]
        exact ownShare_of_some s _ hf
    have effort_eq : (s.airPerTruck t.ble.aFill).1 = effort := by
      cases hf : s.followInUse with
      | none =>
        simp only [effort, hf, airPerTruck_of_none s _ hf, portion, Nat.mul_one]
        rfl
      | some f => simp only [effort, hf, airPerTruck_of_some s _ hf]
    refine ⟨fun k => ⟨?_, ?_⟩, fun h => ⟨computed_total keeps h, ?_, ?_⟩, fun f h => ⟨?_, ?_⟩, fun h => ?_, fun h => ?_⟩
    · rw [← share_eq]
      exact computed_dynTarget keeps k
    · rw [← effort_eq]
      exact computed_limited keeps k
    · simp only [t, computed_dAssign keeps, computed_dDem keeps, State.dAssignNow, h]
      rfl
    · simp only [t, computed_aFill keeps, computed_eAuto keeps, computed_dAssign keeps, State.aFillNow, State.dAssignNow, h]
    · simp only [t, computed_dAssign keeps, State.dAssignNow, h]
    · simp only [t, computed_aFill keeps, State.aFillNow, h]
    · have none := followInUse_of_leading s h
      rw [computed_offered keeps, computed_total keeps none, airPerTruck_of_none s _ none]
      exact if_pos h
    · rw [computed_offered keeps]
      exact if_neg (Bool.eq_false_iff.mp h)

/-! ## Ramps (R27, R30) -/

theorem approach_le {pos target cap : Nat} (rate : Nat) (hp : pos ≤ cap) (ht : target ≤ cap) : approach pos target rate ≤ cap := by
  unfold approach
  split <;> omega

theorem moveRequest_le (master : Bool) (rate request : Nat) {cap target : Nat} (h : target ≤ cap) :
    moveRequest master rate cap target request ≤ cap * 10 := by
  unfold moveRequest
  split
  · exact Nat.zero_le _
  · split
    · exact Nat.le_refl _
    · exact approach_le rate (by omega) (by omega)

/-- Settles O23. -/
theorem requestWithinCapacity : Obligations.RequestWithinCapacity := by
  intro k s
  obtain ⟨u, keeps, recomputed⟩ := bleRecompute_computed s
  rw [recomputed]
  intro t old b w moves demand ceiling cap
  obtain ⟨hreq, hair, -⟩ := keeps.truck k
  have truck : b = truckRecompute u u.ownCapacity (s.airPerTruck t.ble.aFill).1 (s.airPerTruck t.ble.aFill).2 k :=
    computed_truck keeps k
  have capacity : b.capacity = u.capacityOf k := computed_capacity k u
  have request : b.request = moveRequest t.effectiveMaster w.dynRate b.capacity b.dynTarget old.request := by
    rw [truck, truckRecompute, hreq, keeps.working]
    rfl
  have demand_eq : (s.airPerTruck t.ble.aFill).2 = demand := by
    cases hf : s.followInUse with
    | none => simp only [demand, hf, airPerTruck_of_none s _ hf, w]
    | some f => simp only [demand, hf, airPerTruck_of_some s _ hf]
  have cap_eq : s.airCap k b.request = cap := by
    cases hc : (s.am.trucks.get k).ceiling <;>
      simp only [State.airCap, cap, ceiling, w, hc, Bool.or_eq_true, Bool.not_eq_true']
  have computed : b.computedAir = if (s.tpc.get k).state = .fault then 0 else min demand cap := by
    rw [← cap_eq, ← demand_eq, ← keeps.airCap, truck]
    simp only [truckRecompute, keeps.airCapable, airCapable_iff, ite_not]
  have air : b.airTarget = moveAir w.airRate cap b.computedAir old.airTarget := by
    rw [← cap_eq, ← keeps.airCap, truck, truckRecompute, hair, keeps.working]
  have le : b.request ≤ b.capacity * 10 := by
    rw [request, truck]
    exact moveRequest_le _ _ _ (targetOf_le _ _ _)
  refine ⟨le, fun h => ?_, fun hm hlt => ?_, fun hm hle => ?_, by rw [truck]; rfl, computed, fun h => ?_, fun h => ?_, ?_, ?_, ?_, ?_⟩
  · have barred : u.barred k = true := by
      rw [truck] at h
      exact (barred_iff k _).mpr h
    rw [capacity, capacityOf_barred k _ barred] at le
    exact Nat.le_zero.mp le
  · rw [request, hm]
    exact if_pos hlt
  · rw [request, hm]
    exact if_neg (Nat.not_lt.mpr hle)
  · rw [air]
    exact if_pos h
  · rw [air]
    exact if_neg (Nat.not_lt.mpr h)
  · cases k <;> rfl
  · have indep : (t.tpc.get k).claims.indep = s.indepNow := by
      rw [← keeps.indepNow]
      cases k <;> rfl
    rw [indep]
    rfl
  · rw [← keeps.tpc]
    cases k <;> rfl
  · rw [← keeps.tpc]
    cases k <;> rfl

/-! ## The blend state (R32, R33, R43) -/

theorem bleUpdate_failsafe {s : State} (h : LinkState.connected s.flm.link = false) : bleUpdate s = bleFailsafe s :=
  if_neg (Bool.eq_false_iff.mp h)

theorem bleUpdate_connected {s : State} (h : LinkState.connected s.flm.link = true) : bleUpdate s = bleRecompute s := if_pos h

/-- Settles O24. -/
theorem blendStateShown : Obligations.BlendStateShown := by
  intro s
  refine ⟨fun h => ?_, fun h => ?_⟩
  · rw [bleUpdate_failsafe h]
    refine ⟨rfl, rfl, rfl, fun k => ?_⟩
    cases k <;> exact ⟨rfl, rfl, rfl, rfl, rfl, rfl, rfl, rfl⟩
  · obtain ⟨u, keeps, recomputed⟩ := bleRecompute_computed s
    rw [bleUpdate_connected h, recomputed]
    refine ⟨computed_handover keeps, fun latch => ?_, fun clear => ?_⟩
    · rw [computed_blend keeps, latch]
      rfl
    · rw [computed_blend keeps, clear]
      simp only [shownBlend, Bool.false_eq_true, if_false, computedBlend]
      refine ⟨fun hd ha => ?_, fun hd ha => ?_, fun hd ha => ?_, fun hd ha => ?_⟩
      · rw [if_pos hd, if_pos ha]
      · rw [if_neg (Nat.ne_of_gt hd), if_pos ha]
      · rw [if_neg (Nat.ne_of_gt hd), if_neg (Nat.ne_of_gt ha)]
      · rw [if_pos hd, if_neg (Nat.ne_of_gt ha)]

end Sys2Proof.Machine

/-! Shortfall and DB fault (R36 to R38): the timers, the tests of a recompute and the latch. -/
namespace Sys2Proof.Machine

/-! ## Timers -/

theorem holdNext_fails (timer : Option Nat) {p : Prop} [Decidable p] (h : ¬p) : holdNext timer (decide p) = none := by
  simp [holdNext, h]

theorem holdNext_first {p : Prop} [Decidable p] (h : p) : holdNext none (decide p) = some 0 := by
  simp [holdNext, h]

theorem holdNext_again (n : Nat) {p : Prop} [Decidable p] (h : p) : holdNext (some n) (decide p) = some (n + 5) := by
  simp [holdNext, h]

/-! ## The transitions of a truck -/

section Truck
variable (b : TruckBlend)

theorem enterShortfall_due {n : Nat} (hs : b.shortfall = .normal) (hb : b.below = some n) (hn : 200 ≤ n) :
    b.enterShortfall = { b with shortfall := .shortfall, below := none, clear := none, duration := 0 } := by
  refine if_pos ?_
  simp [TruckBlend.entryDue, hs, hb, reached, hn]

theorem enterShortfall_early {n : Nat} (hb : b.below = some n) (hn : n < 200) : b.enterShortfall = b := by
  refine if_neg ?_
  simp [TruckBlend.entryDue, hb, reached, hn]

theorem enterShortfall_none (hb : b.below = none) : b.enterShortfall = b := by
  refine if_neg ?_
  simp [TruckBlend.entryDue, hb, reached]

theorem clearShortfall_due {n : Nat} (hs : b.shortfall = .shortfall) (hc : b.clear = some n) (hn : 1000 ≤ n) :
    b.clearShortfall = { b with shortfall := .normal, below := none, clear := none, duration := 0 } := by
  refine if_pos ?_
  simp [TruckBlend.clearDue, hs, hc, reached, hn]

theorem clearShortfall_early {n : Nat} (hc : b.clear = some n) (hn : n < 1000) : b.clearShortfall = b := by
  refine if_neg ?_
  simp [TruckBlend.clearDue, hc, reached, hn]

theorem clearShortfall_none (hc : b.clear = none) : b.clearShortfall = b := by
  refine if_neg ?_
  simp [TruckBlend.clearDue, hc, reached]

theorem faultDue_iff : b.faultDue = true ↔ b.shortfall = .shortfall ∧ 5000 ≤ b.duration := by
  simp [TruckBlend.faultDue]

end Truck

/-! ## The tests of a recompute -/

section Tests
variable (k : Truck) (s : State)

theorem belowStep_normal (h : (s.ble.trucks.get k).shortfall = .normal) : belowStep s k = TruckBlend.enterShortfall
    { s.ble.trucks.get k with
      below := holdNext (s.ble.trucks.get k).below
        (decide (10 * s.achieved k + 500 < 9 * ((s.ble.trucks.get k).handed / 10))) } := if_pos h

theorem belowStep_shortfall (h : (s.ble.trucks.get k).shortfall = .shortfall) : belowStep s k =
    { s.ble.trucks.get k with duration := (s.ble.trucks.get k).duration + 5 } := by
  simp only [belowStep, h, reduceCtorEq, if_false, if_true]

theorem belowStep_fault (h : (s.ble.trucks.get k).shortfall = .fault) : belowStep s k = s.ble.trucks.get k := by
  simp only [belowStep, h, reduceCtorEq, if_false]

theorem clearStep_shortfall (h : (s.ble.trucks.get k).shortfall = .shortfall) : clearStep s k = TruckBlend.clearShortfall
    { s.ble.trucks.get k with
      clear := holdNext (s.ble.trucks.get k).clear (decide (95 * s.wanted k ≤ 100 * s.achieved k)) } := if_pos h

theorem clearStep_other (h : (s.ble.trucks.get k).shortfall ≠ .shortfall) : clearStep s k = s.ble.trucks.get k := if_neg h

theorem wanted_eq {k other : Truck} (h : other ≠ k) (s : State) : s.wanted k =
    s.targetOf (s.openCapacity k) (s.openCapacity k + s.capacityOf other) := by
  cases k <;> cases other
  case t1.t1 => exact absurd rfl h
  case t1.t2 => rfl
  case t2.t1 => rfl
  case t2.t2 => exact absurd rfl h

theorem latchDbFault_due (h : (s.ble.trucks.get k).shortfall = .shortfall ∧ 5000 ≤ (s.ble.trucks.get k).duration) :
    latchDbFault k s = trigger .blendFault false
      (raise (.dbFault k ((s.ble.trucks.get k).request / 10) (s.achieved k))
        (s.setBlend k { s.ble.trucks.get k with dbFault := true, shortfall := .fault })) :=
  if_pos ((faultDue_iff _).mpr h)

theorem latchDbFault_not (h : ¬((s.ble.trucks.get k).shortfall = .shortfall ∧ 5000 ≤ (s.ble.trucks.get k).duration)) :
    latchDbFault k s = s := if_neg ((faultDue_iff _).not.mpr h)

end Tests

/-! ## The latches of a recompute (log 15) -/

section Latches

/-- The trucks after the tests of a recompute. -/
def testedTruck (s : State) (k : Truck) : TruckBlend :=
  clearStep { s with ble := { s.ble with trucks := ⟨belowStep s .t1, belowStep s .t2⟩ } } k

/-- A state with the trucks' blending as given. -/
def State.withTrucks (d : Truck → TruckBlend) (s : State) : State :=
  { s with ble := { s.ble with trucks := ⟨d .t1, d .t2⟩ } }

/-- The latch of truck `k`, due by its tested blending. -/
def latchTested (s : State) (d : TruckBlend) (k : Truck) (v : State) : State :=
  if d.shortfall = .shortfall ∧ 5000 ≤ d.duration then
    trigger .blendFault false (raise (.dbFault k (d.request / 10) (s.achieved k))
      { v with ble := { v.ble with trucks := v.ble.trucks.set k { d with dbFault := true, shortfall := .fault } } })
  else v

/-- A truck after its latch. -/
def TruckBlend.latched (d : TruckBlend) : TruckBlend :=
  if d.shortfall = .shortfall ∧ 5000 ≤ d.duration then { d with dbFault := true, shortfall := .fault } else d

variable {s v : State} {d : TruckBlend} {k : Truck}

theorem latchDbFault_eq (hd : v.ble.trucks.get k = d) (ha : v.achieved k = s.achieved k) :
    latchDbFault k v = latchTested s d k v := by
  subst hd
  unfold latchTested
  split
  next h => rw [latchDbFault_due k v h, ha]; rfl
  next h => exact latchDbFault_not k v h

theorem latchTested_trucks : (latchTested s d k v).ble.trucks =
    if d.shortfall = .shortfall ∧ 5000 ≤ d.duration then v.ble.trucks.set k { d with dbFault := true, shortfall := .fault }
    else v.ble.trucks := by
  unfold latchTested
  split
  · rw [trigger_ble, raise_ble]
  · rfl

theorem latchTested_self (hd : v.ble.trucks.get k = d) : (latchTested s d k v).ble.trucks.get k = d.latched := by
  rw [latchTested_trucks, TruckBlend.latched]
  split
  · exact PerTruck.get_set_self ..
  · exact hd

theorem latchTested_other {j : Truck} (h : j ≠ k) : (latchTested s d k v).ble.trucks.get j = v.ble.trucks.get j := by
  rw [latchTested_trucks]
  split
  · cases j <;> cases k
    case t1.t1 => exact absurd rfl h
    case t1.t2 => rfl
    case t2.t1 => rfl
    case t2.t2 => exact absurd rfl h
  · rfl

theorem latchTested_achieved (j : Truck) : (latchTested s d k v).achieved j = v.achieved j := by
  unfold latchTested
  split
  · simp only [State.achieved, State.chan, trigger_flm, raise_flm]
  · rfl

/-- The shortfall steps are the two latches on the tested trucks. -/
theorem shortfallSteps_eq (s : State) : shortfallSteps s = latchTested s (testedTruck s .t2) .t2
    (latchTested s (testedTruck s .t1) .t1 (s.withTrucks (testedTruck s))) := by
  have first : latchDbFault .t1 (s.withTrucks (testedTruck s)) =
      latchTested s (testedTruck s .t1) .t1 (s.withTrucks (testedTruck s)) := latchDbFault_eq rfl rfl
  have second : latchDbFault .t2 (latchTested s (testedTruck s .t1) .t1 (s.withTrucks (testedTruck s))) = _ :=
    latchDbFault_eq (s := s) (latchTested_other (j := .t2) (by decide)) (latchTested_achieved .t2)
  exact (congrArg (latchDbFault .t2) first).trans second

theorem shortfallSteps_truck (k : Truck) (s : State) : (shortfallSteps s).ble.trucks.get k = (testedTruck s k).latched := by
  rw [shortfallSteps_eq]
  cases k
  case t1 => exact (latchTested_other (j := .t1) (by decide)).trans (latchTested_self rfl)
  case t2 => exact latchTested_self (latchTested_other (j := .t2) (by decide))

end Latches

theorem setBlend_self (k : Truck) (s : State) : s.setBlend k (s.ble.trucks.get k) = s := by cases k <;> rfl

/-- A recompute writes the BLE and the claims of the TPC on the state after the shortfall steps. -/
theorem computed_frame (u : State) : computed u = { u with ble := (computed u).ble, tpc := (computed u).tpc } := rfl

/-- The shortfall state and its timers are as the shortfall steps left them. -/
theorem computed_shortfall (k : Truck) (u : State) : ∃ capacity target request handed air limited ramp,
    (computed u).ble.trucks.get k =
      { u.ble.trucks.get k with
        capacity := capacity, dynTarget := target, request := request, handed := handed, computedAir := air,
        limited := limited, airTarget := ramp } := by
  rw [computed_truck_self]
  exact ⟨_, _, _, _, _, _, _, rfl⟩

/-- Settles O25. -/
theorem shortfallAndDbFault : Obligations.ShortfallAndDbFault := by
  refine ⟨fun k s hp => ?_, fun k s hp => ?_, fun k s => ?_, fun k other s hne => ?_, fun k s => ?_, fun s => ?_⟩
  · have kept {b : TruckBlend} (h : b = s.ble.trucks.get k) : s.setBlend k b = s := h ▸ setBlend_self k s
    refine ⟨fun n hs hb hn => ?_, fun n hb hn => ?_, fun n hs hc hn => ?_, fun n hc hn => ?_⟩
    · exact effect_of_act_eq rfl hp (congrArg (fun b => s.setBlend k b) (enterShortfall_due _ hs hb hn))
    · exact effect_of_act_eq rfl hp (kept (enterShortfall_early _ hb hn))
    · exact effect_of_act_eq rfl hp (congrArg (fun b => s.setBlend k b) (clearShortfall_due _ hs hc hn))
    · exact effect_of_act_eq rfl hp (kept (clearShortfall_early _ hc hn))
  · refine ⟨fun hs hd => effect_of_act_eq rfl hp (latchDbFault_due k s ⟨hs, hd⟩),
      fun h => effect_of_act_eq rfl hp (latchDbFault_not k s fun due => ?_)⟩
    obtain ⟨hs, hd⟩ := due
    exact h.elim (fun h => h hs) (Nat.not_lt.mpr hd)
  · refine ⟨fun hn => ?_, fun hs => belowStep_shortfall k s hs, fun hf => belowStep_fault k s hf⟩
    rw [belowStep_normal k s hn]
    refine ⟨fun off => ?_, fun on hb => ?_, fun n on hb => ⟨fun lt => ?_, fun le => ?_⟩⟩
    · rw [holdNext_fails _ off]
      exact enterShortfall_none _ rfl
    · rw [hb, holdNext_first on]
      exact enterShortfall_early _ rfl (by decide)
    · rw [hb, holdNext_again n on]
      exact enterShortfall_early _ rfl lt
    · rw [hb, holdNext_again n on]
      exact enterShortfall_due _ hn rfl le
  · intro b d least free clears
    have free_eq : s.openCapacity k = free := by
      simp only [State.openCapacity, barred_iff]
      cases hc : (s.am.trucks.get k).ceiling <;> simp only [free, least, b, hc, Ceiling.bound]
    have wanted : s.wanted k = s.targetOf free (free + s.capacityOf other) := by rw [wanted_eq hne, free_eq]
    refine ⟨fun hs => ?_, fun hs => clearStep_other k s hs⟩
    have step : d = _ := clearStep_shortfall k s hs
    rw [step, wanted]
    refine ⟨fun off => ?_, fun on hc => ?_, fun n on hc => ⟨fun lt => ?_, fun le => ?_⟩⟩
    · rw [holdNext_fails _ off]
      exact clearShortfall_none _ rfl
    · rw [hc, holdNext_first on]
      exact clearShortfall_early _ rfl (by decide)
    · rw [hc, holdNext_again n on]
      exact clearShortfall_early _ rfl lt
    · rw [hc, holdNext_again n on]
      exact clearShortfall_due _ hs rfl le
  · intro d b latches
    obtain ⟨_, _, _, _, _, _, _, recomputed⟩ := computed_shortfall k (shortfallSteps s)
    rw [shortfallSteps_truck] at recomputed
    have truck : b = _ := recomputed
    by_cases h : latches
    · have latched : (testedTruck s k).latched = { testedTruck s k with dbFault := true, shortfall := .fault } := if_pos h
      rw [truck, latched]
      exact ⟨fun _ => ⟨rfl, rfl⟩, fun no => absurd h no, rfl, rfl, rfl⟩
    · have kept : (testedTruck s k).latched = testedTruck s k := if_neg h
      rw [truck, kept]
      exact ⟨fun yes => absurd yes h, fun _ => ⟨rfl, rfl⟩, rfl, rfl, rfl⟩
  · have frame := computed_frame (shortfallSteps s)
    have steps := shortfallSteps_eq s
    exact frame.trans (congrArg (fun v : State =>
      { v with ble := (computed (shortfallSteps s)).ble, tpc := (computed (shortfallSteps s)).tpc }) steps)

end Sys2Proof.Machine

/-! Truck pressure channels: the target and the settle ramp of a decision (R48, R49), the sensor fault (R54), the supervision window
and the channel fault (R53, R55, R56). -/
namespace Sys2Proof.Machine

/-! ## The channel through a decision -/

section Channel
variable (w : Settings) (bc : Channel) (c : Tpc)

/-- Steps 1 and 2 of a decision stand in its result. -/
theorem Tpc.decide_aimed : (c.decide w bc).target = (c.aimed w bc).target ∧ (c.decide w bc).ramp = (c.aimed w bc).ramp ∧
    (c.decide w bc).sensorFault = (bc.validity == .invalid) ∧ (c.decide w bc).slideRead = c.claims.slide := by
  obtain ⟨_, _, _, h⟩ := c.decide_frame w bc
  rw [h]
  exact ⟨rfl, rfl, rfl, rfl⟩

/-- The end of a decision keeps target, claims and sensor fault, and ramp and latch where no fault latches. -/
theorem Tpc.conclude_frame (n : Nat) : (c.conclude n).target = c.target ∧ (c.conclude n).claims = c.claims ∧
    (c.conclude n).sensorFault = c.sensorFault ∧ (c.conclude n).slideRead = c.slideRead ∧
    ((c.conclude n).ramp = c.ramp ∧ (c.conclude n).latch = c.latch ∨
      (c.conclude n).ramp = none ∧ (c.conclude n).latch ≠ c.latch) := by
  obtain ⟨_, _, _, h⟩ := c.windowEnd_frame n
  unfold Tpc.conclude
  split
  next due =>
    simp only [Tpc.faultDue, Bool.and_eq_true, beq_iff_eq, Tpc.windowEnd_latch] at due
    obtain ⟨⟨-, clear⟩, -⟩ := due
    have latched : (c.windowEnd n).latchFault.latch ≠ c.latch := clear ▸ Tpc.latchFault_latch _
    refine ⟨?_, ?_, ?_, ?_, .inr ⟨rfl, latched⟩⟩ <;> rw [h] <;> rfl
  next => rw [h]; exact ⟨rfl, rfl, rfl, rfl, .inl ⟨rfl, rfl⟩⟩

theorem Tpc.aimed_barred (h : c.latch ≠ .clear ∨ bc.validity = .invalid ∨ c.claims.emergency = true ∨
    c.claims.slide = .dumping) : (c.aimed w bc).ramp = none := by
  refine if_pos ?_
  simpa [or_assoc] using h

theorem Tpc.aimed_free (h : ¬(c.latch ≠ .clear ∨ bc.validity = .invalid ∨ c.claims.emergency = true ∨
    c.claims.slide = .dumping)) : (c.aimed w bc).ramp =
      if c.settleStarts then c.rampUntilBase (bc.value * 100)
      else match c.ramp with
        | none => none
        | some v => c.rampUntilBase (v + 20) := by
  refine if_neg ?_
  simpa [or_assoc] using h

theorem Tpc.settleStarts_iff : c.settleStarts = true ↔
    c.claims.slide = .settling ∧ (c.slideRead = .dumping ∨ c.slideRead = .reapplyHold) := by
  simp [Tpc.settleStarts]

end Channel

/-! ## The state through a decision -/

section Whole
variable (k : Truck) (s : State)

theorem setTpc_self : s.setTpc k (s.tpc.get k) = s := by cases k <;> rfl

theorem setTpc_setTpc (c d : Tpc) : (s.setTpc k c).setTpc k d = s.setTpc k d := by cases k <;> rfl

theorem setTpc_get (c : Tpc) : (s.setTpc k c).tpc.get k = c := PerTruck.get_set_self ..

theorem sensorFaultEntry_entered (before : ChannelState) (hv : (s.bc k).validity = .invalid) (hb : before ≠ .fault) :
    sensorFaultEntry k before s =
      trigger .blendFault false (raise (.channelFault k .bcInvalid (s.tpc.get k).target (s.bc k).value) s) := if_pos ⟨hv, hb⟩

theorem sensorFaultEntry_quiet (before : ChannelState) (h : (s.bc k).validity ≠ .invalid ∨ before = .fault) :
    sensorFaultEntry k before s = s := by
  refine if_neg fun ⟨hv, hb⟩ => ?_
  exact h.elim (fun h => h hv) hb

theorem windowEnd_idle (h : ChannelState.moving (s.tpc.get k).state = false) : windowEnd k s = s := by
  rw [windowEnd, Tpc.windowEnd_of_not_moving h, setTpc_self]

theorem latchChannelFault_due (h : (s.tpc.get k).faultDue = true) : latchChannelFault k s = trigger .blendFault false
    (raise (.channelFault k (s.tpc.get k).latchCause (s.tpc.get k).target (s.bc k).value)
      (s.setTpc k (s.tpc.get k).latchFault)) := if_pos h

theorem latchChannelFault_not (h : (s.tpc.get k).faultDue = false) : latchChannelFault k s = s :=
  if_neg (Bool.eq_false_iff.mp h)

theorem faultDue_idle (c : Tpc) (h : ChannelState.moving c.state = false) : c.faultDue = false := by
  simp [Tpc.faultDue, h]

theorem tpcDecide_connected (h : LinkState.connected s.flm.link = true) : tpcDecide k s =
    latchChannelFault k (windowEnd k (sensorFaultEntry k (s.tpc.get k).state
      (s.setTpc k ((s.tpc.get k).decide s.clp.working (s.bc k))))) := if_pos h

/-- With BC INVALID the decision is the choice of FAULT, and the notice of its entry. -/
theorem tpcDecide_invalid (h : LinkState.connected s.flm.link = true) (hv : (s.bc k).validity = .invalid) :
    tpcDecide k s = sensorFaultEntry k (s.tpc.get k).state (s.setTpc k ((tpcDecide k s).tpc.get k)) := by
  have state : ((s.tpc.get k).decide s.clp.working (s.bc k)).state = .fault := by
    rw [Tpc.decide_state, Tpc.choose_of_faulty (.inr hv)]
  have idle : ChannelState.moving ((s.tpc.get k).decide s.clp.working (s.bc k)).state = false := by rw [state]; rfl
  have get : (tpcDecide k s).tpc.get k = (s.tpc.get k).decide s.clp.working (s.bc k) := by
    rw [tpcDecide_get_connected h, Tpc.conclude_of_not_moving idle]
  have entered : ((sensorFaultEntry k (s.tpc.get k).state
      (s.setTpc k ((s.tpc.get k).decide s.clp.working (s.bc k)))).tpc.get k) =
      (s.tpc.get k).decide s.clp.working (s.bc k) := by rw [sensorFaultEntry_tpc, setTpc_get]
  rw [get, tpcDecide_connected k s h, windowEnd_idle k _ (by rw [entered]; exact idle),
    latchChannelFault_not k _ (faultDue_idle _ (by rw [entered]; exact idle))]

/-- With BC usable the decision ends with the window's end and the latch of a fault that is then due. -/
theorem tpcDecide_usable (h : LinkState.connected s.flm.link = true) (hv : (s.bc k).validity ≠ .invalid) :
    tpcDecide k s = latchChannelFault k
      (s.setTpc k (((s.tpc.get k).decide s.clp.working (s.bc k)).windowEnd (s.bc k).value)) := by
  rw [tpcDecide_connected k s h, sensorFaultEntry_quiet k (s.setTpc k _) _ (.inl hv), windowEnd, setTpc_get, setTpc_setTpc, setTpc_bc]

end Whole

/-- Settles O27. -/
theorem channelTarget : Obligations.ChannelTarget := by
  intro k s d c bc base barred starts upTo level
  refine ⟨fun off => ?_, fun on hv => ⟨fun hs => ?_, fun hs => ?_⟩, fun on => ?_⟩
  · have channel : d = c.off bc.validity := tpcDecide_get_unconnected off
    rw [channel]
    refine ⟨rfl, rfl, rfl, rfl, ?_⟩
    cases bc.validity <;> simp [Tpc.off]
  · have decided := tpcDecide_invalid k s on hv
    rw [sensorFaultEntry_entered k (s.setTpc k d) _ hv hs, setTpc_get] at decided
    exact decided
  · have decided := tpcDecide_invalid k s on hv
    rw [sensorFaultEntry_quiet k (s.setTpc k d) _ (.inr hs)] at decided
    exact decided
  · have channel : d = (c.decide s.clp.working bc).conclude bc.value := tpcDecide_get_connected on
    obtain ⟨target, claims, sensor, read, ends⟩ := (c.decide s.clp.working bc).conclude_frame bc.value
    obtain ⟨aim, ramp, sensor', read'⟩ := c.decide_aimed s.clp.working bc
    rw [← channel, aim] at target
    rw [← channel, Tpc.decide_claims] at claims
    rw [← channel, sensor'] at sensor
    rw [← channel, read'] at read
    rw [← channel, ramp, Tpc.decide_latch] at ends
    have base_eq : base = c.base := by
      simp only [base, claims, Tpc.base]
    have aimed : (c.aimed s.clp.working bc).target = if c.claims.emergency then max base level
        else match (c.aimed s.clp.working bc).ramp with
          | some v => min base (v / 100)
          | none => base := by
      rw [base_eq]
      rfl
    have upTo_eq (v : Nat) : c.rampUntilBase v = upTo v := by
      simp only [Tpc.rampUntilBase, upTo, base_eq]
    refine ⟨claims, fun he => ?_, fun v he hr => ?_, fun he hr hl => ?_, ?_, read, fun hb => ?_, fun hb hl =>
      ⟨fun hs => ?_, fun v hs hr => ?_, fun hs hr => ?_⟩⟩
    · rw [claims] at he
      rw [target, aimed, if_pos he]
    · obtain ⟨kept, -⟩ | ⟨gone, -⟩ := ends
      · rw [claims] at he
        rw [target, aimed, ← kept, hr, he]
        rfl
      · rw [gone] at hr
        cases hr
    · obtain ⟨kept, -⟩ | ⟨-, changed⟩ := ends
      · rw [claims] at he
        rw [target, aimed, ← kept, hr, he]
        rfl
      · exact absurd hl changed
    · rw [sensor]
      cases bc.validity <;> rfl
    · obtain ⟨kept, -⟩ | ⟨gone, -⟩ := ends
      · rw [kept, Tpc.aimed_barred _ _ _ hb]
      · exact gone
    all_goals
      obtain ⟨kept, -⟩ | ⟨-, changed⟩ := ends
      case inr => exact absurd hl changed
      rw [kept, Tpc.aimed_free _ _ _ hb]
    · rw [if_pos ((Tpc.settleStarts_iff c).mpr hs), upTo_eq]
    · rw [if_neg ((Tpc.settleStarts_iff c).not.mpr hs), hr]
      exact upTo_eq _
    · rw [if_neg ((Tpc.settleStarts_iff c).not.mpr hs), hr]

/-! ## The supervision window and the channel fault (R53, R55, R56) -/

section Supervision
variable {bc : Nat} {c : Tpc}

theorem Tpc.windowEnd_early (h : c.window < 1000) : c.windowEnd bc = c := by
  refine if_neg ?_
  simp [Tpc.windowDue, h]

theorem Tpc.windowEnd_due (hm : ChannelState.moving c.state = true) (h : 1000 ≤ c.window) : c.windowEnd bc =
    { c with noProgress := if c.progressed bc then 0 else c.noProgress + 1, progressRef := bc, window := 0 } := by
  refine if_pos ?_
  simp [Tpc.windowDue, hm, h]

theorem Tpc.progressed_applying (h : c.state = .applying) : c.progressed bc = true ↔ c.progressRef + 5 ≤ bc := by
  simp [Tpc.progressed, h]

theorem Tpc.progressed_releasing (h : c.state = .releasing) : c.progressed bc = true ↔ bc + 5 ≤ c.progressRef := by
  simp [Tpc.progressed, h]

theorem Tpc.faultDue_iff : c.faultDue = true ↔ ChannelState.moving c.state = true ∧ c.latch = .clear ∧ 3 ≤ c.noProgress := by
  simp [Tpc.faultDue, and_assoc]

theorem Tpc.faultDue_early (h : c.noProgress < 3) : c.faultDue = false := by
  simp [Tpc.faultDue, h]

/-- A decision that stays in APPLYING or RELEASING moves the window by 5 ms. -/
theorem Tpc.decide_of_stay {w : Settings} {bc : Channel} (hm : ChannelState.moving (c.decide w bc).state = true)
    (hs : (c.decide w bc).state = c.state) : (c.decide w bc).window = c.window + 5 ∧
      (c.decide w bc).progressRef = c.progressRef ∧ (c.decide w bc).noProgress = c.noProgress := by
  rw [Tpc.decide_state_chosen] at hm hs
  have stays : c.decide w bc =
      { Tpc.drive { c.aimed w bc with state := (c.aimed w bc).choose bc } with window := c.window + 5 } := by
    rw [Tpc.decide_eq, Tpc.supervise]
    have moves : (!ChannelState.moving (Tpc.drive { c.aimed w bc with state := (c.aimed w bc).choose bc }).state) = false := by
      rw [Bool.not_eq_false']
      exact hm
    rw [moves]
    exact if_pos hs
  rw [stays]
  exact ⟨rfl, rfl, rfl⟩

/-- The state that a decision on a VALID BC chooses, held against the target of its end. -/
theorem Tpc.decide_state_valid {w : Settings} {bc : Channel} (hl : c.latch = .clear) (hv : bc.validity = .valid)
    (hd : c.claims.slide ≠ .dumping) : (c.decide w bc).state =
      if bc.value + 10 < (c.decide w bc).target then .applying
      else if (c.decide w bc).target + 10 < bc.value then .releasing else .lapped := by
  rw [Tpc.decide_state, Tpc.choose_of_valid (by rwa [Tpc.decide_latch]) hv (by rwa [Tpc.decide_claims])]

variable {k : Truck} {s : State}

theorem windowEnd_alone {d : Tpc} (h : (s.tpc.get k).windowEnd (s.bc k).value = d) : windowEnd k s = s.setTpc k d := by
  rw [windowEnd, h]

/-- No fault is due at the end of the decision. -/
theorem tpcDecide_goesOn {d : Tpc} (h : LinkState.connected s.flm.link = true) (hv : (s.bc k).validity ≠ .invalid)
    (hd : ((s.tpc.get k).decide s.clp.working (s.bc k)).windowEnd (s.bc k).value = d) (hf : d.faultDue = false) :
    tpcDecide k s = s.setTpc k d := by
  rw [tpcDecide_usable k s h hv, hd, latchChannelFault_not k _ (by rwa [setTpc_get])]

/-- A fault is due at the end of the decision. -/
theorem tpcDecide_faults {d : Tpc} (h : LinkState.connected s.flm.link = true) (hv : (s.bc k).validity ≠ .invalid)
    (hd : ((s.tpc.get k).decide s.clp.working (s.bc k)).windowEnd (s.bc k).value = d) (hf : d.faultDue = true) :
    tpcDecide k s = trigger .blendFault false
      (raise (.channelFault k d.latchCause d.target (s.bc k).value) (s.setTpc k d.latchFault)) := by
  rw [tpcDecide_usable k s h hv, hd, latchChannelFault_due k _ (by rwa [setTpc_get]), setTpc_get, setTpc_setTpc, setTpc_bc]

end Supervision

/-- Settles O29. -/
theorem supervisionAndChannelFault : Obligations.SupervisionAndChannelFault := by
  refine ⟨fun k s hp => ?_, fun k s hp => ?_, fun k s => ?_⟩
  · have judged (n : Nat) (hm : ChannelState.moving (s.tpc.get k).state = true) (hw : 1000 ≤ (s.tpc.get k).window)
        (hn : (if (s.tpc.get k).progressed (s.bc k).value then 0 else (s.tpc.get k).noProgress + 1) = n) : windowEnd k s =
          s.setTpc k { s.tpc.get k with noProgress := n, progressRef := (s.bc k).value, window := 0 } :=
      windowEnd_alone (hn ▸ Tpc.windowEnd_due hm hw)
    refine ⟨fun hw hs => ?_, fun hw hs => ?_, fun hw => ?_⟩
    · have moves : ChannelState.moving (s.tpc.get k).state = true := by rw [hs]; rfl
      have progress := Tpc.progressed_applying (bc := (s.bc k).value) hs
      exact ⟨fun hb => effect_of_act_eq rfl hp (judged 0 moves hw (if_pos (progress.mpr hb))),
        fun hb => effect_of_act_eq rfl hp (judged _ moves hw (if_neg (progress.not.mpr (Nat.not_le.mpr hb))))⟩
    · have moves : ChannelState.moving (s.tpc.get k).state = true := by rw [hs]; rfl
      have progress := Tpc.progressed_releasing (bc := (s.bc k).value) hs
      exact ⟨fun hb => effect_of_act_eq rfl hp (judged 0 moves hw (if_pos (progress.mpr hb))),
        fun hb => effect_of_act_eq rfl hp (judged _ moves hw (if_neg (progress.not.mpr (Nat.not_le.mpr hb))))⟩
    · exact effect_of_act_eq rfl hp ((windowEnd_alone (Tpc.windowEnd_early hw)).trans (setTpc_self k s))
  · refine ⟨fun hn hl hs => ?_, fun hn hl hs => ?_, fun hn => ?_⟩
    · have due : (s.tpc.get k).faultDue = true := Tpc.faultDue_iff.mpr ⟨by rw [hs]; rfl, hl, hn⟩
      have latched := latchChannelFault_due k s due
      simp only [Tpc.latchCause, Tpc.latchFault, hs, if_true] at latched
      exact effect_of_act_eq rfl hp latched
    · have due : (s.tpc.get k).faultDue = true := Tpc.faultDue_iff.mpr ⟨by rw [hs]; rfl, hl, hn⟩
      have latched := latchChannelFault_due k s due
      simp only [Tpc.latchCause, Tpc.latchFault, hs, reduceCtorEq, if_false] at latched
      exact effect_of_act_eq rfl hp latched
    · exact effect_of_act_eq rfl hp (latchChannelFault_not k s (Tpc.faultDue_early hn))
  · intro c d bc put applies releases progress ends on hl hv hd hmoves goesOn faults
    have usable : (s.bc k).validity ≠ .invalid := fun h => by
      rw [show (s.bc k).validity = .valid from hv] at h
      cases h
    let e : Tpc := c.decide s.clp.working (s.bc k)
    have target : e.target = d.target := by
      obtain ⟨same, -⟩ := e.conclude_frame bc
      rw [show d = e.conclude bc from tpcDecide_get_connected on, same]
    have chosen : e.state = if bc + 10 < d.target then .applying else if d.target + 10 < bc then .releasing else .lapped := by
      rw [← target]
      exact Tpc.decide_state_valid hl hv hd
    have stays : e.state = c.state ∧ ChannelState.moving e.state = true := by
      obtain ⟨hs, below⟩ | ⟨hs, above⟩ := hmoves
      · rw [chosen, if_pos below]
        exact ⟨hs.symm, rfl⟩
      · rw [chosen, if_neg (by omega), if_pos above]
        exact ⟨hs.symm, rfl⟩
    obtain ⟨state, moves⟩ := stays
    obtain ⟨window, ref, count⟩ : e.window = c.window + 5 ∧ e.progressRef = c.progressRef ∧ e.noProgress = c.noProgress :=
      Tpc.decide_of_stay moves state
    have latch : e.latch = .clear := (Tpc.decide_latch ..).trans hl
    have progressed : e.progressed bc = true ↔ progress := by
      obtain ⟨hs, below⟩ | ⟨hs, above⟩ := hmoves
      · rw [Tpc.progressed_applying (state.trans hs), ref]
        exact ⟨fun h => .inl ⟨⟨hs, below⟩, h⟩, fun h => h.elim And.right fun h => by
          have other := hs.symm.trans h.1.1
          cases other⟩
      · rw [Tpc.progressed_releasing (state.trans hs), ref]
        exact ⟨fun h => .inr ⟨⟨hs, above⟩, h⟩, fun h => h.elim (fun h => by
          have other := hs.symm.trans h.1.1
          cases other) And.right⟩
    have kept {g : Tpc} (hg : e.windowEnd bc = g) (hf : g.faultDue = false) : tpcDecide k s = put ∧ d = g := by
      have whole := tpcDecide_goesOn on usable hg hf
      have get : d = g := (congrArg (fun v : State => v.tpc.get k) whole).trans (setTpc_get k s g)
      refine ⟨?_, get⟩
      simp only [put, get]
      exact whole
    have ended (n : Nat) (hw : ends) (hn : (if e.progressed bc then 0 else e.noProgress + 1) = n) :
        e.windowEnd bc = { e with noProgress := n, progressRef := bc, window := 0 } :=
      hn ▸ Tpc.windowEnd_due moves (window ▸ hw)
    refine ⟨fun hw hn => ?_, fun hw hpr => ?_, fun hw hpr hn => ?_, fun hw hpr hn => ?_⟩
    · obtain ⟨whole, get⟩ := kept (Tpc.windowEnd_early (by omega)) (Tpc.faultDue_early (by omega))
      exact ⟨whole, get ▸ state, get ▸ latch, get ▸ window, get ▸ ref, get ▸ count⟩
    · obtain ⟨whole, get⟩ := kept (ended 0 hw (if_pos (progressed.mpr hpr))) (Tpc.faultDue_early (Nat.zero_lt_succ 2))
      exact ⟨whole, get ▸ state, get ▸ latch, get ▸ rfl, get ▸ rfl, get ▸ rfl⟩
    · obtain ⟨whole, get⟩ := kept (ended (c.noProgress + 1) hw (by rw [if_neg (progressed.not.mpr hpr), count]))
        (Tpc.faultDue_early hn)
      exact ⟨whole, get ▸ state, get ▸ latch, get ▸ rfl, get ▸ rfl, get ▸ rfl⟩
    · have last := ended (c.noProgress + 1) hw (by rw [if_neg (progressed.not.mpr hpr), count])
      have whole := tpcDecide_faults on usable last (Tpc.faultDue_iff.mpr ⟨moves, latch, hn⟩)
      have get : d = Tpc.latchFault { e with noProgress := c.noProgress + 1, progressRef := bc, window := 0 } := by
        have tpc := congrArg (fun v : State => v.tpc.get k) whole
        rw [trigger_tpc, raise_tpc] at tpc
        exact tpc.trans (setTpc_get k s _)
      rw [← get] at whole
      refine ⟨get ▸ rfl, get ▸ rfl, get ▸ rfl, get ▸ rfl, get ▸ rfl, get ▸ rfl, get ▸ rfl, fun ⟨hs, _⟩ => ?_, fun ⟨hs, _⟩ => ?_⟩
      · have applying : e.state = .applying := state.trans hs
        refine ⟨?_, ?_⟩
        · rw [get]
          exact if_pos applying
        · rw [← target]
          simp only [Tpc.latchCause, applying, if_true] at whole
          exact whole
      · have releasing : e.state = .releasing := state.trans hs
        have other : e.state ≠ .applying := by rw [releasing]; exact ChannelState.noConfusion
        refine ⟨?_, ?_⟩
        · rw [get]
          exact if_neg other
        · rw [← target]
          simp only [Tpc.latchCause, other, if_false] at whole
          exact whole

end Sys2Proof.Machine

/-! Requests taken (R178, R179): the reply or the hold of a request that is ready; and the requests of the brake: FAULT_CLEAR,
DYNAMIC_ENABLE, EMERGENCY_RESET, PENALTY_SET, PENALTY_CLEAR. -/
namespace Sys2Proof.Machine

/-! ## A ready request -/

section Ready
variable {c : Instr} {row : ReqRow} {f : ReqFrame} {serve : List Byte → State → Served} {s t : State}

/-- A ready request of its row is served on the state in which it has arrived. -/
theorem effect_of_ready (hc : exec c s = act (takeRequest row f serve) s) (hr : rowOf f = row) (h : s.ready f)
    (hs : serveRequest f serve (arrive f s) = t) : effect c s t := by
  obtain ⟨hp, ht⟩ := h
  exact effect_of_act_eq hc hp ((takeRequest_yes s row f serve hr ht).trans hs)

/-- A request that passes the first three tests is replied to by its own rule. -/
theorem replies_of_serve (hc : exec c s = act (takeRequest row f serve) s) (hr : rowOf f = row) (h : s.ready f)
    (hpre : precheck f = none) {st : ReplyStatus} {p : List Byte} (hs : serve f.payload (arrive f s) = .reply st p t) :
    replies c s f st p t := effect_of_ready hc hr h (serveRequest_reply _ f serve st p t hpre hs)

/-- A request that fails one of the first three tests is refused by it. -/
theorem replies_of_precheck (hc : exec c s = act (takeRequest row f serve) s) (hr : rowOf f = row) (h : s.ready f)
    {st : ReplyStatus} {p : List Byte} (hpre : precheck f = some (st, p)) : replies c s f st p (arrive f s) :=
  effect_of_ready hc hr h (serveRequest_refused _ f serve (st, p) hpre)

/-- A request that passes the first three tests and is held by its own rule. -/
theorem holds_of_serve (hc : exec c s = act (takeRequest row f serve) s) (hr : rowOf f = row) (h : s.ready f)
    (hpre : precheck f = none) (hs : serve f.payload (arrive f s) = .hold t) : holds c s t :=
  effect_of_ready hc hr h (serveRequest_hold _ f serve t hpre hs)

/-- The arrival of a request writes the queue. -/
theorem arrive_form (f : ReqFrame) (s : State) : ∃ q, arrive f s = { s with clp := { s.clp with queue := q } } := by
  obtain h | ⟨-, h⟩ := arrive_eq s f
  · exact ⟨s.clp.queue, h⟩
  · exact ⟨[f], h⟩

end Ready

/-! ## FAULT_CLEAR (R39, R56) -/

section FaultClear

theorem rowOf_faultClear (tag n v : Byte) : rowOf ⟨0x0E#8, tag, [n, v]⟩ =
    if v = 1#8 then .faultClearDb else if v = 2#8 then .faultClearBoth else .faultClearChannel := by
  by_cases h1 : v = 1#8
  · subst h1; rfl
  by_cases h2 : v = 2#8
  · subst h2; rfl
  rw [if_neg h1, if_neg h2]
  show (match v.toNat with
    | 1 => ReqRow.faultClearDb
    | 2 => ReqRow.faultClearBoth
    | _ => ReqRow.faultClearChannel) = _
  split
  next h => exact absurd (BitVec.eq_of_toNat_eq h) h1
  next h => exact absurd (BitVec.eq_of_toNat_eq h) h2
  next => rfl

theorem precheck_faultClear (tag n v : Byte) : precheck ⟨0x0E#8, tag, [n, v]⟩ = none := rfl

variable (f : Truck → State → State) (n v : Byte) (s : State)

theorem serveFaultClear_truck {k : Truck} (h : truckOf n.toNat = some k) (hv : v.toNat ≤ 2) :
    serveFaultClear f [n, v] s = accept (f k s) := by
  have named : truckOf (rd8 [n, v] 0) = some k := h
  have value : rd8 [n, v] 1 ≤ 2 := hv
  simp only [serveFaultClear, named, value, if_true]

theorem serveFaultClear_value {k : Truck} (h : truckOf n.toNat = some k) (hv : 2 < v.toNat) :
    serveFaultClear f [n, v] s = refuse .badValue s := by
  have named : truckOf (rd8 [n, v] 0) = some k := h
  have value : ¬rd8 [n, v] 1 ≤ 2 := Nat.not_le.mpr hv
  simp only [serveFaultClear, named, value, if_false]

theorem serveFaultClear_none (h : truckOf n.toNat = none) : serveFaultClear f [n, v] s = refuse .badValue s := by
  have named : truckOf (rd8 [n, v] 0) = none := h
  simp only [serveFaultClear, named]

/-- The table of R56. -/
theorem Tpc.clearFault_eq (w : Settings) (bc : Validity) (c : Tpc) : c.clearFault w bc =
    if c.latch ≠ .clear ∧ c.state = .fault ∧ bc ≠ .invalid then
      { c with latch := .clear, state := .lapped, apply := false, release := false, target := c.targetOf w.emergPressure }
    else if c.latch ≠ .clear ∧ (c.state = .fault ∨ c.state = .off) then { c with latch := .clear }
    else c := by
  unfold Tpc.clearFault
  by_cases hl : c.latch = .clear
  · simp [hl]
  · rw [if_neg hl]
    cases c.state <;> simp only [hl, reduceCtorEq, ne_eq, not_false_eq_true, true_and, false_and, and_false, or_false, or_true,
      if_true, if_false]
    by_cases hv : bc = .invalid
    · simp only [hv, not_true_eq_false, if_true, if_false]
    · simp only [hv, not_false_eq_true, if_true, if_false]
      rfl

theorem clearDbFault_eq (k : Truck) (s : State) : clearDbFault k s = s.setBlend k
    (if (s.ble.trucks.get k).dbFault then
      { s.ble.trucks.get k with dbFault := false, shortfall := .normal, below := none, clear := none, duration := 0 }
    else s.ble.trucks.get k) := by
  unfold clearDbFault
  dsimp only
  split
  · rfl
  · exact (setBlend_self k s).symm

end FaultClear

/-- Settles O30. -/
theorem faultClearForms : Obligations.FaultClearForms := by
  intro tag n v k s f ready r c b bc chan db
  have row : rowOf f = _ := rowOf_faultClear tag n v
  have passed : precheck f = none := precheck_faultClear tag n v
  obtain ⟨q, arrived⟩ := arrive_form f s
  have channel : clearChannelFault k r = { r with tpc := s.tpc.set k chan } := by
    have cleared := Tpc.clearFault_eq s.clp.working bc c
    simp only [r, arrived, clearChannelFault]
    exact congrArg (fun d => { s with tpc := s.tpc.set k d, clp := { s.clp with queue := q } }) cleared
  have ble : r.ble = s.ble := by simp only [r, arrived]
  have dynamic (x : State) (hx : x.ble = s.ble) :
      clearDbFault k x = { x with ble := { s.ble with trucks := s.ble.trucks.set k db } } := by
    rw [clearDbFault_eq, State.setBlend, hx]
  refine ⟨fun named => ⟨fun hv => ?_, fun hv => ?_, fun hv => ?_, fun hv => ?_⟩, fun none => ⟨fun h1 h2 => ?_, fun hv => ?_, fun hv => ?_⟩⟩
  · rw [if_neg (by rw [hv]; decide), if_neg (by rw [hv]; decide)] at row
    refine replies_of_serve rfl row ready passed ((serveFaultClear_truck _ n v r named (by rw [hv]; decide)).trans ?_)
    rw [channel]
    rfl
  · rw [if_pos hv] at row
    refine replies_of_serve rfl row ready passed ((serveFaultClear_truck _ n v r named (by rw [hv]; decide)).trans ?_)
    rw [dynamic r ble]
    rfl
  · rw [if_neg (by rw [hv]; decide), if_pos hv] at row
    refine replies_of_serve rfl row ready passed ((serveFaultClear_truck _ n v r named (by rw [hv]; decide)).trans ?_)
    rw [channel]
    exact congrArg accept (dynamic { r with tpc := s.tpc.set k chan } ble)
  · rw [if_neg (fun e => absurd hv (by rw [e]; decide)), if_neg (fun e => absurd hv (by rw [e]; decide))] at row
    exact replies_of_serve rfl row ready passed (serveFaultClear_value _ n v r named hv)
  · rw [if_neg h1, if_neg h2] at row
    exact replies_of_serve rfl row ready passed (serveFaultClear_none _ n v r none)
  · rw [if_pos hv] at row
    exact replies_of_serve rfl row ready passed (serveFaultClear_none _ n v r none)
  · rw [if_neg (by rw [hv]; decide), if_pos hv] at row
    exact replies_of_serve rfl row ready passed (serveFaultClear_none _ n v r none)

/-- Settles O31. -/
theorem dynamicEnableTakes : Obligations.DynamicEnableTakes := by
  intro tag m v s f ready named
  refine replies_of_serve rfl rfl ready rfl ?_
  obtain ⟨q, arrived⟩ := arrive_form f s
  rw [arrived]
  simp only [named, Bool.or_assoc]
  rfl

/-! ## Emergency and penalty (R83 to R95) -/

section Emergency
variable (s : State)

theorem pipeAtLeast_iff (n : Nat) : s.pipeAtLeast n = true ↔ (s.chan 8).validity = .valid ∧ n ≤ (s.chan 8).value := by
  simp only [State.pipeAtLeast, Bool.and_eq_true, beq_iff_eq, decide_eq_true_eq]
  exact Iff.rfl

theorem stationary_iff : s.stationary = true ↔ s.am.known = true ∧ s.am.vref < 5000 := by
  simp [State.stationary]

theorem trailExit_iff : s.trailExit = true ↔ s.csl.role = .trail ∧ s.csl.follow = some .following ∧ s.es.latch = true ∧
    s.es.shareFlag = some false ∧ (s.chan 8).validity = .valid ∧ 400 ≤ (s.chan 8).value ∧ 60000 ≤ s.es.held := by
  simp [State.trailExit, following_iff, pipeAtLeast_iff, and_assoc]

/-- The state after an emergency exit, before its notice (R92). -/
def State.exited (s : State) : State :=
  { s with
    es := { s.es with latch := false, cause := .none, entryTime := none, held := 0, charged := false,
                      pipeRate := false, pipeLow := false, consist := false }
    tpc := ⟨{ s.tpc.t1 with claims := { s.tpc.t1.claims with emergency := false } },
            { s.tpc.t2 with claims := { s.tpc.t2.claims with emergency := false } }⟩
    ble := { s.ble with offered := s.ble.offered.map (fun o => { o with emergency := false }) } }

theorem emergencyExit_eq (m : ExitManner) :
    emergencyExit m s = raise (.emergencyOff s.es.cause (min 4294967295 s.es.held) m) s.exited := rfl

end Emergency

/-- Settles O41. -/
theorem emergencyResetTests : Obligations.EmergencyResetTests := by
  intro tag s f ready r c follows still charged
  obtain ⟨q, arrived⟩ := arrive_form f s
  have answered {st : ReplyStatus} {t : State} (h : serveEmergencyReset [] r = .reply st [] t) : replies c s f st [] t :=
    replies_of_serve rfl rfl ready rfl h
  have following : r.following = true ↔ follows := by simp only [r, arrived, following_iff]; exact Iff.rfl
  have stationary : r.stationary = true ↔ still := by simp only [r, arrived, stationary_iff]; exact Iff.rfl
  have pipe : r.pipeAtLeast 400 = true ↔ charged := by simp only [r, arrived, pipeAtLeast_iff]; exact Iff.rfl
  have es : r.es = s.es := by simp only [r, arrived]
  refine ⟨fun h => answered ?_, fun h hl => answered ?_, fun h hl ht => answered ?_, fun h hl ht hs => answered ?_,
    fun h hl ht hs hc => answered ?_, fun h hl ht hs hc => answered ?_⟩
  · simp only [serveEmergencyReset, following.mpr h, if_true]
    rfl
  all_goals
    have off : r.following = false := Bool.eq_false_iff.mpr (following.not.mpr h)
  · simp only [serveEmergencyReset, off, es, hl, Bool.false_eq_true, Bool.not_false, if_true, if_false]
    rfl
  · simp only [serveEmergencyReset, off, es, hl, ht, Bool.false_eq_true, Bool.not_true, if_true, if_false]
    rfl
  all_goals
    have long : ¬s.es.held < 60000 := Nat.not_lt.mpr ht
  · have moving : r.stationary = false := Bool.eq_false_iff.mpr (stationary.not.mpr hs)
    simp only [serveEmergencyReset, off, es, hl, long, moving, Bool.false_eq_true, Bool.not_true, Bool.not_false, if_true,
      if_false]
    rfl
  all_goals
    have stands := stationary.mpr hs
  · have low : r.pipeAtLeast 400 = false := Bool.eq_false_iff.mpr (pipe.not.mpr hc)
    simp only [serveEmergencyReset, off, es, hl, long, stands, low, Bool.false_eq_true, Bool.not_true, Bool.not_false,
      if_true, if_false]
    rfl
  · have exit : emergencyExit .reset r = raise (.emergencyOff s.es.cause (min 4294967295 s.es.held) .reset) r.exited := by
      rw [emergencyExit_eq, es]
    simp only [serveEmergencyReset, off, es, hl, long, stands, pipe.mpr hc, Bool.false_eq_true, Bool.not_true, if_false, exit]
    simp only [r, arrived]
    rfl

/-- Settles O42. -/
theorem penaltyRequests : Obligations.PenaltyRequests := by
  refine ⟨?_, ?_⟩
  · intro tag code s f ready r
    obtain ⟨q, arrived⟩ := arrive_form f s
    have answered {st : ReplyStatus} {t : State} (h : servePenaltySet [code] r = .reply st [] t) :
        replies (.penaltySet tag [code]) s f st [] t := replies_of_serve rfl rfl ready rfl h
    have es : r.es = s.es := by simp only [r, arrived]
    refine ⟨fun h => answered ?_, fun h hp => answered ?_, fun h hp => answered ?_⟩
    · rw [h]
      rfl
    all_goals
      have value : ¬rd8 [code] 0 = 0 := fun zero => h (BitVec.eq_of_toNat_eq zero)
    · simp only [servePenaltySet, value, es, hp, if_true, if_false]
      rfl
    · simp only [servePenaltySet, value, es, hp, Bool.false_eq_true, if_false]
      simp only [r, arrived]
      rfl
  · intro tag s f ready r still
    obtain ⟨q, arrived⟩ := arrive_form f s
    have answered {st : ReplyStatus} {t : State} (h : servePenaltyClear [] r = .reply st [] t) :
        replies (.penaltyClear tag []) s f st [] t := replies_of_serve rfl rfl ready rfl h
    have es : r.es = s.es := by simp only [r, arrived]
    have stationary : r.stationary = true ↔ still := by simp only [r, arrived, stationary_iff]; exact Iff.rfl
    refine ⟨fun hp => answered ?_, fun hp hs => answered ?_, fun hp hs => answered ?_⟩
    · simp only [servePenaltyClear, es, hp, Bool.not_false, if_true]
      rfl
    · have moving : r.stationary = false := Bool.eq_false_iff.mpr (stationary.not.mpr hs)
      simp only [servePenaltyClear, es, hp, moving, Bool.not_true, Bool.not_false, Bool.false_eq_true, if_true, if_false]
      rfl
    · simp only [servePenaltyClear, es, hp, stationary.mpr hs, Bool.not_true, Bool.false_eq_true, if_false]
      rfl

/-! ## Causes and entry (R83 to R89) -/

section Causes
variable (s : State)

theorem emergencyCause_clear (cause : EntryCause) (h : s.es.latch = false) : emergencyCause cause s = emergencyEnter cause s := by
  simp only [emergencyCause, h, Bool.false_eq_true, if_false]

theorem emergencyCause_set (cause : EntryCause) (h : s.es.latch = true) :
    emergencyCause cause s = trigger .emergency true s := by
  simp only [emergencyCause, h, if_true]

/-- The ES with the flag of one entry recorded, `arisen` where the record shows the cause (R86). -/
def recorded (ident : Nat) (flag arisen : Bool) (s : State) : State :=
  { s with es := { s.es with
    seen := recordFlag ident flag s.es.seen
    consist := (s.es.consist || arisen) && (recordFlag ident flag s.es.seen).any (fun p => p.2) } }

theorem esStatus_quiet {ident : Nat} {flag : Bool} (h : ¬(flag = true ∧ s.es.seenFlag ident ≠ some true)) :
    esStatus ident flag s = recorded ident flag false s := by
  have none : (flag && s.es.seenFlag ident != some true) = false := by simpa using h
  simp only [esStatus, none, Bool.false_eq_true, if_false]
  rfl

theorem esStatus_arises {ident : Nat} {flag : Bool} (h : flag = true ∧ s.es.seenFlag ident ≠ some true) :
    esStatus ident flag s = emergencyCause .consist (recorded ident flag true s) := by
  have some : (flag && s.es.seenFlag ident != some true) = true := by simpa using h
  simp only [esStatus, some, if_true]
  rfl

end Causes

/-- Settles O39. -/
theorem emergencyCauses : Obligations.EmergencyCauses := by
  refine ⟨fun s => ⟨?_, rfl, fun h => ?_, fun h => ?_, rfl⟩, fun s => ?_, fun ident flag s => ?_, ?_⟩
  · have charged : s.pipeAtLeast 300 = decide ((s.chan 8).validity = .valid ∧ 300 ≤ (s.chan 8).value) := by
      rw [Bool.eq_iff_iff, pipeAtLeast_iff, decide_eq_true_iff]
    rw [chargedStep, charged]
  · exact if_pos ((trailExit_iff s).mpr h)
  · exact if_neg ((trailExit_iff s).not.mpr h)
  · intro low rate u again
    have tested : testStep s = u := rfl
    obtain ⟨hl, h⟩ | ⟨hl, hr, h⟩ | ⟨hl, hr, hlow, h⟩ | ⟨hl, hr, hlow, h⟩ := causeStep_cases s
    · rw [h, tested, hl]
      exact ⟨nofun, nofun, nofun, fun _ => rfl⟩
    all_goals
      rw [tested] at *
      rw [h, hl]
    · have set : rate = true := hr
      rw [set]
      exact ⟨fun _ _ => rfl, nofun, nofun, nofun⟩
    · have clear : rate = false := hr
      have set : low = true := hlow
      rw [clear, set]
      exact ⟨nofun, fun _ _ _ => rfl, nofun, nofun⟩
    · have clear : rate = false := hr
      have none : low = false := hlow
      rw [clear, none]
      exact ⟨nofun, nofun, fun _ _ _ => rfl, nofun⟩
  · intro arises seen u
    refine ⟨fun h => ?_, fun h hl => ?_, fun h hl => ?_⟩
    · rw [esStatus_quiet s h, recorded, Bool.or_false]
      rfl
    · rw [esStatus_arises s h, emergencyCause_clear (recorded ident flag true s) _ hl, recorded, Bool.or_true]
      rfl
    · rw [esStatus_arises s h, emergencyCause_set (recorded ident flag true s) _ hl, recorded, Bool.or_true]
      rfl
  · intro tag s f ready
    obtain ⟨q, arrived⟩ := arrive_form f s
    have answered {t : State} (h : emergencyCause .hostApply (arrive f s) = t) :
        replies (.emergencyApply tag []) s f .ok [] t :=
      replies_of_serve (serve := serveEmergencyApply) rfl rfl ready rfl (congrArg accept h)
    have es : (arrive f s).es = s.es := by rw [arrived]
    exact ⟨fun hl => answered (emergencyCause_clear _ _ (es ▸ hl)), fun hl => answered (emergencyCause_set _ _ (es ▸ hl))⟩

/-- Settles O40. -/
theorem emergencyEntry : Obligations.EmergencyEntry := by
  intro cause s
  refine ⟨{ s with
    es := { s.es with latch := true, cause := cause, entryTime := some s.time, held := 0 }
    tpc := s.tpc.map (Tpc.takeEmergency s.clp.working.emergPressure)
    ble := if s.clp.working.emergDynamic = .drop then dropMaster s.ble else s.ble }, rfl, rfl, rfl, fun k => ?_, fun h => ?_,
    fun h => ?_⟩
  · have channel (c : Tpc) : (c.takeEmergency s.clp.working.emergPressure).claims = { c.claims with emergency := true } ∧
        (c.takeEmergency s.clp.working.emergPressure).state = c.state ∧
        (c.takeEmergency s.clp.working.emergPressure).apply = c.apply ∧
        (c.takeEmergency s.clp.working.emergPressure).release = c.release ∧
        (c.state ≠ .off → (c.takeEmergency s.clp.working.emergPressure).ramp = none ∧
          (c.takeEmergency s.clp.working.emergPressure).target =
            max (max c.claims.air c.claims.indep) s.clp.working.emergPressure) := by
      unfold Tpc.takeEmergency
      dsimp only
      split
      next off => exact ⟨rfl, rfl, rfl, rfl, fun h => absurd off h⟩
      next => exact ⟨rfl, rfl, rfl, rfl, fun _ => ⟨rfl, rfl⟩⟩
    cases k
    · exact channel s.tpc.t1
    · exact channel s.tpc.t2
  · dsimp only
    rw [if_pos h]
    exact ⟨rfl, fun k => by cases k <;> rfl⟩
  · dsimp only
    rw [if_neg (by rw [h]; exact nofun)]

end Sys2Proof.Machine

/-! The adhesion monitor's reference speed and axles (R63 to R71). -/
namespace Sys2Proof.Machine

/-! ## The reference speed (R63 to R65) -/

section Reference
variable (s : State)

/-- The condition under which an axle is a candidate (R63). -/
def State.isCandidate (s : State) (a : Axle) : Bool :=
  decide ((s.chan a.channel).validity = .valid) && decide ((s.am.axles.get a).state ≠ .excluded)

theorem candidate_eq (a : Axle) : s.candidate a = if s.isCandidate a then some ((s.chan a.channel).value * 100) else none := by
  simp only [State.candidate, State.isCandidate, Bool.and_eq_true, decide_eq_true_eq]
  rfl

theorem candidates_eq : s.candidates =
    ([Axle.a1, .a2, .a3, .a4, .a5, .a6].filter s.isCandidate).map (fun a => (s.chan a.channel).value * 100) := by
  have taken (l : List Axle) : l.filterMap s.candidate = (l.filter s.isCandidate).map (fun a => (s.chan a.channel).value * 100) := by
    induction l with
    | nil => rfl
    | cons a l ih =>
      rw [List.filterMap_cons, candidate_eq]
      cases h : s.isCandidate a <;> simp [h, ih]
  exact taken _

/-- The AM with a V_ref found. -/
def State.refFound (s : State) : State := { s with am := { s.am with vref := s.vrefNow, known := true, lostNotified := false } }

/-- The AM with V_ref lost. -/
def State.refLost (s : State) : State := { s with am := { s.am with known := false, lostNotified := true } }

theorem vrefStep_found (h : 2 ≤ s.candidates.length) : vrefStep s =
    if s.am.lostNotified then raise (.refSpeedBack (s.vrefNow / 100)) s.refFound else s.refFound := if_pos h

theorem vrefStep_lost (h : s.candidates.length < 2) : vrefStep s =
    if s.am.lostNotified then s.refLost else raise (.refSpeedLost s.candidates.length (s.am.vref / 100)) s.refLost :=
  if_neg (Nat.not_le.mpr h)

theorem vrefStep_am_found (h : 2 ≤ s.candidates.length) : (vrefStep s).am = s.refFound.am := by
  rw [vrefStep_found s h]
  split
  · rw [raise_am]
  · rfl

theorem vrefNow_braking (h : s.braking = true) : s.vrefNow = min 1500000 (if s.am.known then
      min (s.am.vref + 50) (max (s.am.vref - s.clp.working.refDecelLimit * 5) (s.candidates.foldl max 0))
    else s.candidates.foldl max 0) := by
  simp only [State.vrefNow, h, if_true]
  split <;> rfl

theorem vrefNow_free (h : s.braking = false) : s.vrefNow = min 1500000 (lowerMedian s.candidates) := by
  simp only [State.vrefNow, h, Bool.false_eq_true, if_false]

end Reference

/-- Settles O32. -/
theorem referenceSpeedMoves : Obligations.ReferenceSpeedMoves := by
  intro s
  refine ⟨candidates_eq s, fun h => ?_, fun h => ?_⟩
  · have am := vrefStep_am_found s h
    have found : (vrefStep s).am.vref = s.vrefNow := by rw [am]; rfl
    refine ⟨by rw [am]; rfl, by rw [am]; rfl, ?_, fun hb hk hv => ?_, fun high hm hh hb => ?_, fun mid hm hl hg hb => ?_,
      fun hn => ?_, fun hn => ?_⟩
    · rw [found]
      exact Nat.min_le_left _ _
    · rw [found, vrefNow_braking s hb, hk, if_pos rfl]
      omega
    · rw [found, vrefNow_braking s hb, foldl_max_eq _ high hm hh]
    · rw [found, vrefNow_free s hb, lowerMedian_eq _ mid hl hg]
    · have step := vrefStep_found s h
      rw [hn] at step
      rw [found]
      exact step
    · have step := vrefStep_found s h
      rw [hn] at step
      rw [found]
      exact step
  · have step := vrefStep_lost s h
    refine ⟨fun hn => ?_, fun hn => ?_⟩
    · rw [hn] at step
      exact step
    · rw [hn] at step
      exact step

/-! ## An axle's move (R65 to R71) -/

section Axle
variable (i : AxleInput) (r : AxleRec)

theorem decelTest_iff (h : List (Nat × Validity)) : decelTest h i = true ↔
    i.speed.validity = .valid ∧ ∃ v x y z, h = [(v, .valid), x, y, z] ∧ i.speed.value + 20 < v := by
  constructor
  · intro holds
    unfold decelTest at holds
    split at holds
    · simp only [Bool.and_eq_true, beq_iff_eq, decide_eq_true_eq] at holds
      exact ⟨holds.1, _, _, _, _, rfl, holds.2⟩
    · cases holds
  · rintro ⟨hv, v, x, y, z, rfl, below⟩
    simp [decelTest, hv, below]

/-- The slide condition of R66, spelt out. -/
def AxleInput.Slides (i : AxleInput) (h : List (Nat × Validity)) : Prop :=
  i.slip > (i.slideAbs * 100 : Nat) ∧ i.slip * 100 > (i.slideRel * i.vref : Nat) ∨
    i.speed.validity = .valid ∧ ∃ v x y z, h = [(v, .valid), x, y, z] ∧ i.speed.value + 20 < v

theorem slideCondition_iff (h : List (Nat × Validity)) : slideCondition h i = true ↔ i.Slides h := by
  simp only [slideCondition, Bool.or_eq_true, Bool.and_eq_true, decide_eq_true_eq, decelTest_iff, AxleInput.Slides]

theorem holds_iff : i.holds = true ↔ i.speed.validity ≠ .valid ∧ (i.known = true ∨ i.held = true) := by
  simp [AxleInput.holds]

/-- Where an axle goes by its slip, by R65 or by R69, before its counts move. -/
def AxleRec.live (i : AxleInput) (r : AxleRec) : AxleRec :=
  if i.holds then r else if !i.known then r.unknownMove else r.slideMove i

/-- The counts of R70. -/
def AxleRec.invalidNext (i : AxleInput) (r : AxleRec) : Nat := if i.speed.validity = .invalid then r.invalid + 1 else 0

def AxleRec.overNext (i : AxleInput) (r : AxleRec) : Nat :=
  if i.speed.validity = .valid then
    (if i.known = true ∧ i.braking = true ∧ i.vref + 50000 < i.speed.value * 100 then r.overSpeed + 5 else 0)
  else r.overSpeed

theorem countMove_eq : r.countMove i = { r with invalid := r.invalidNext i, overSpeed := r.overNext i } := by
  unfold AxleRec.countMove AxleRec.invalidNext AxleRec.overNext
  cases i.speed.validity <;>
    simp only [Bool.and_eq_true, decide_eq_true_eq, and_assoc, reduceCtorEq, if_true, if_false]

/-- What a live axle's move may change: its state, not to EXCLUDED, its confirm count and its recovery timer. -/
def AxleRec.Moved (r q : AxleRec) : Prop := ∃ st confirm recovery,
  q = { r with state := st, confirm := confirm, recovery := recovery } ∧ st ≠ .excluded

theorem Moved.to {st : AxleState} (h : st ≠ .excluded) (confirm recovery : Nat) :
    r.Moved { r with state := st, confirm := confirm, recovery := recovery } := ⟨_, _, _, rfl, h⟩

theorem confirmEnd_moved {q : AxleRec} (h : r.Moved q) : r.Moved q.confirmEnd := by
  obtain ⟨st, confirm, recovery, rfl, hst⟩ := h
  unfold AxleRec.confirmEnd
  split
  · exact ⟨_, _, _, rfl, nofun⟩
  · exact Moved.to r hst _ _

theorem recoveryEnd_moved {q : AxleRec} (h : r.Moved q) : r.Moved q.recoveryEnd := by
  obtain ⟨st, confirm, recovery, rfl, hst⟩ := h
  unfold AxleRec.recoveryEnd
  split
  · exact ⟨_, _, _, rfl, nofun⟩
  · exact Moved.to r hst _ _

theorem unknownMove_moved (h : r.state ≠ .excluded) : r.Moved r.unknownMove := by
  unfold AxleRec.unknownMove
  split
  · exact ⟨_, _, _, rfl, nofun⟩
  · exact ⟨_, _, _, rfl, nofun⟩
  · exact ⟨_, _, _, rfl, nofun⟩
  · exact Moved.to r h _ _
  · exact Moved.to r h _ _

theorem slideMove_moved (h : r.state ≠ .excluded) : r.Moved (r.slideMove i) := by
  have kept : r.Moved r := Moved.to r h _ _
  unfold AxleRec.slideMove
  dsimp only
  split
  · split
    · exact ⟨_, _, _, rfl, nofun⟩
    · exact kept
  · split
    · exact confirmEnd_moved r (Moved.to r h _ _)
    · exact ⟨_, _, _, rfl, nofun⟩
  · split
    · exact ⟨_, _, _, rfl, nofun⟩
    · exact kept
  · split
    · exact ⟨_, _, _, rfl, nofun⟩
    · split
      · exact recoveryEnd_moved r (Moved.to r h _ _)
      · exact Moved.to r h _ _
  · exact kept

theorem live_moved (h : r.state ≠ .excluded) : r.Moved (r.live i) := by
  unfold AxleRec.live
  split
  · exact Moved.to r h _ _
  · split
    · exact unknownMove_moved r h
    · exact slideMove_moved i r h

theorem move_live (h : r.state ≠ .excluded) : r.move i =
    { ((r.live i).countMove i).exclude with history := pushSpeed i r.history } := by
  simp only [AxleRec.move, h, if_false]
  rfl

theorem move_excluded (h : r.state = .excluded) : r.move i =
    { (r.returnMove i).returnEnd with history := pushSpeed i r.history } := by
  simp only [AxleRec.move, h, if_true]

/-- An axle is excluded at the counts of R70 (R70). -/
theorem move_state_excluded (h : r.state ≠ .excluded) :
    (r.move i).state = .excluded ↔ 3 ≤ r.invalidNext i ∨ 1000 ≤ r.overNext i := by
  obtain ⟨st, confirm, recovery, live, hst⟩ := live_moved i r h
  rw [move_live i r h, live, countMove_eq, AxleRec.exclude, AxleRec.excludeDue]
  have free : (st != .excluded) = true := by simpa using hst
  dsimp only
  rw [free, Bool.true_and]
  have counts : (decide (3 ≤ r.invalidNext i) || decide (1000 ≤ r.overNext i)) = true ↔
      3 ≤ r.invalidNext i ∨ 1000 ≤ r.overNext i := by
    rw [Bool.or_eq_true, decide_eq_true_eq, decide_eq_true_eq]
  split
  next due => exact ⟨fun _ => counts.mp due, fun _ => rfl⟩
  next due => exact ⟨fun e => absurd e hst, fun e => absurd (counts.mpr e) due⟩

/-- An axle that is not excluded is as it moves, with its counts (R67 to R70). -/
theorem move_of_not_excluded (h : r.state ≠ .excluded) (hm : (r.move i).state ≠ .excluded) : r.move i =
    { r.live i with invalid := r.invalidNext i, overSpeed := r.overNext i, history := pushSpeed i r.history } := by
  obtain ⟨st, confirm, recovery, live, hst⟩ := live_moved i r h
  have counts := (move_state_excluded i r h).not.mp hm
  rw [move_live i r h, live, countMove_eq, AxleRec.exclude, AxleRec.excludeDue, if_neg]
  · rfl
  · rw [Bool.and_eq_true, Bool.or_eq_true, decide_eq_true_eq, decide_eq_true_eq]
    exact fun due => counts due.2

end Axle

/-! ## The slide states (R67, R68) -/

section Slide
variable {i : AxleInput} {r : AxleRec}

theorem live_held (h : i.speed.validity ≠ .valid ∧ (i.known = true ∨ i.held = true)) : r.live i = r :=
  if_pos ((holds_iff i).mpr h)

theorem live_unknown (hk : i.known = false) (h : i.speed.validity = .valid ∨ i.held = false) : r.live i = r.unknownMove := by
  have free : ¬i.holds = true := by
    rw [holds_iff]
    rintro ⟨hv, known | held⟩
    · rw [hk] at known; cases known
    · exact h.elim hv fun e => by rw [e] at held; cases held
  rw [AxleRec.live, if_neg free, hk]
  rfl

theorem live_known (hk : i.known = true) (hv : i.speed.validity = .valid) : r.live i = r.slideMove i := by
  have free : ¬i.holds = true := by
    rw [holds_iff]
    exact fun h => h.1 hv
  rw [AxleRec.live, if_neg free, hk]
  rfl

theorem unknownMove_rolling (h : r.state = .rolling) : r.unknownMove = r := by simp only [AxleRec.unknownMove, h]

theorem unknownMove_other (h : r.state ≠ .rolling) (he : r.state ≠ .excluded) :
    r.unknownMove = { r with state := .rolling, confirm := 0, recovery := 0 } := by
  unfold AxleRec.unknownMove
  split
  · rfl
  · rfl
  · rfl
  next hs => exact absurd hs h
  next hs => exact absurd hs he

theorem not_slideCondition (h : ¬i.Slides r.history) : slideCondition r.history i = false :=
  Bool.eq_false_iff.mpr ((slideCondition_iff i r.history).not.mpr h)

theorem slideMove_rolling (hs : r.state = .rolling) : r.slideMove i =
    if slideCondition r.history i then { r with state := .suspect, confirm := 1 } else r := by
  simp only [AxleRec.slideMove, hs]

theorem slideMove_suspect (hs : r.state = .suspect) : r.slideMove i =
    if slideCondition r.history i then AxleRec.confirmEnd { r with confirm := r.confirm + 1 }
    else { r with state := .rolling, confirm := 0 } := by
  simp only [AxleRec.slideMove, hs]

theorem slideMove_sliding (hs : r.state = .sliding) : r.slideMove i =
    if i.close then { r with state := .recovery, recovery := 0 } else r := by
  simp only [AxleRec.slideMove, hs]

theorem slideMove_recovery (hs : r.state = .recovery) : r.slideMove i =
    if slideCondition r.history i then { r with state := .sliding, recovery := 0 }
    else if i.close then AxleRec.recoveryEnd { r with recovery := r.recovery + 5 }
    else { r with recovery := 0 } := by
  simp only [AxleRec.slideMove, hs]

theorem confirmEnd_due (hs : r.state = .suspect) (h : 3 ≤ r.confirm) :
    r.confirmEnd = { r with state := .sliding, confirm := 0 } := by
  refine if_pos ?_
  simp [AxleRec.confirmDue, hs, h]

theorem confirmEnd_early (h : r.confirm < 3) : r.confirmEnd = r := by
  refine if_neg ?_
  simp [AxleRec.confirmDue, h]

theorem recoveryEnd_due (hs : r.state = .recovery) (h : 200 ≤ r.recovery) :
    r.recoveryEnd = { r with state := .rolling, recovery := 0 } := by
  refine if_pos ?_
  simp [AxleRec.recoveryDue, hs, h]

theorem recoveryEnd_early (h : r.recovery < 200) : r.recoveryEnd = r := by
  refine if_neg ?_
  simp [AxleRec.recoveryDue, h]

theorem exclude_due (hs : r.state ≠ .excluded) (h : 3 ≤ r.invalid ∨ 1000 ≤ r.overSpeed) : r.exclude =
    { r with state := .excluded, confirm := 0, recovery := 0, invalid := 0, overSpeed := 0, ret := 0 } := by
  refine if_pos ?_
  simp [AxleRec.excludeDue, hs, h]

theorem returnEnd_due (hs : r.state = .excluded) (h : 2000 ≤ r.ret) : r.returnEnd =
    { r with state := .rolling, confirm := 0, recovery := 0, invalid := 0, overSpeed := 0, ret := 0 } := by
  refine if_pos ?_
  simp [AxleRec.returnDue, hs, h]

theorem returnEnd_early (h : r.ret < 2000) : r.returnEnd = r := by
  refine if_neg ?_
  simp [AxleRec.returnDue, h]

theorem close_iff (i : AxleInput) : i.close = true ↔ i.slip < 5000 := decide_eq_true_iff

/-! ## The return of an excluded axle (R71) -/

theorem near_iff (i : AxleInput) : i.near = true ↔ -10000 ≤ i.slip ∧ i.slip ≤ 10000 := by
  simp [AxleInput.near]

theorem returnMove_held (h : i.known = false ∨ i.speed.validity = .stale) : r.returnMove i = r := by
  refine if_pos ?_
  simpa using h

theorem returnMove_counts (hk : i.known = true) (hv : i.speed.validity ≠ .stale) : r.returnMove i =
    if i.speed.validity = .valid ∧ i.near = true then { r with ret := r.ret + 5 } else { r with ret := 0 } := by
  simp [AxleRec.returnMove, hk, hv]

end Slide

theorem PerAxle.get_map {α β : Type} (f : Axle → α → β) (p : PerAxle α) (a : Axle) : (p.map f).get a = f a (p.get a) := by
  cases a <;> rfl

/-- Settles O33. -/
theorem axleTransitions : Obligations.AxleTransitions := by
  refine ⟨fun a s hp => ?_, fun held braking a s => ?_⟩
  · have alone {f : AxleRec → AxleRec} {r : AxleRec} (h : f (s.am.axles.get a) = r) : axleEvent a f s = s.setAxle a r :=
      congrArg (fun r => s.setAxle a r) h
    refine ⟨fun hs hc => ?_, fun hs hr => ?_, fun hs hc => ?_, fun hs hr => ?_⟩
    · exact effect_of_act_eq rfl hp (alone (confirmEnd_due hs hc))
    · exact effect_of_act_eq rfl hp (alone (recoveryEnd_due hs hr))
    · exact effect_of_act_eq rfl hp (alone (exclude_due hs hc))
    · exact effect_of_act_eq rfl hp (alone (returnEnd_due hs hr))
  · intro w r m now slip slides goes invalid overTime
    let i : AxleInput := s.axleInput held braking a
    have moved : m = r.move i := PerAxle.get_map _ _ a
    refine ⟨?_, fun hr => ?_, fun hr => ?_⟩
    · rw [moved, AxleRec.move]
      rfl
    · refine ⟨?_, fun hm => ?_⟩
      · rw [moved]
        exact move_state_excluded i r hr
      · rw [moved] at hm
        have live := move_of_not_excluded i r hr hm
        rw [← moved] at live
        have goes_of {q : AxleRec} (hq : r.live i = q) : goes q.state q.confirm q.recovery := by
          simp only [goes, live, hq, and_self]
        refine ⟨by rw [live]; rfl, by rw [live]; rfl, fun hv hk => ?_, fun hk hv => ⟨fun hs => ?_, fun hs => ?_⟩, fun hk hv => ?_⟩
        · exact goes_of (live_held ⟨hv, hk⟩)
        · have rolling := goes_of ((live_unknown hk hv).trans (unknownMove_rolling hs))
          rwa [hs] at rolling
        · exact goes_of ((live_unknown hk hv).trans (unknownMove_other hs hr))
        · have goes_of {q : AxleRec} (hq : r.slideMove i = q) : goes q.state q.confirm q.recovery :=
            goes_of ((live_known hk hv).trans hq)
          have kept {st : AxleState} (hs : r.state = st) (hq : r.slideMove i = r) : goes st r.confirm r.recovery :=
            hs ▸ goes_of hq
          have cond (h : slides) : slideCondition r.history i = true := (slideCondition_iff i r.history).mpr h
          have none (h : ¬slides) : ¬slideCondition r.history i = true := (slideCondition_iff i r.history).not.mpr h
          have close (h : slip < 5000) : i.close = true := (close_iff i).mpr h
          have far (h : 5000 ≤ slip) : ¬i.close = true := (close_iff i).not.mpr (Int.not_lt.mpr h)
          refine ⟨fun hs h => ?_, fun hs h => ?_, fun hs h hc => ?_, fun hs h hc => ?_, fun hs h => ?_, fun hs h => ?_,
            fun hs h => ?_, fun hs h => ?_, fun hs h hsl hc => ?_, fun hs h hsl hc => ?_, fun hs h hsl => ?_⟩
          · exact goes_of ((slideMove_rolling hs).trans (if_pos (cond h)))
          · exact kept hs ((slideMove_rolling hs).trans (if_neg (none h)))
          · have counts := goes_of ((slideMove_suspect hs).trans ((if_pos (cond h)).trans
              (confirmEnd_early (r := { r with confirm := r.confirm + 1 }) (Nat.succ_lt_succ hc))))
            rwa [hs] at counts
          · exact goes_of ((slideMove_suspect hs).trans ((if_pos (cond h)).trans
              (confirmEnd_due (r := { r with confirm := r.confirm + 1 }) hs (Nat.succ_le_succ hc))))
          · exact goes_of ((slideMove_suspect hs).trans (if_neg (none h)))
          · exact goes_of ((slideMove_sliding hs).trans (if_pos (close h)))
          · exact kept hs ((slideMove_sliding hs).trans (if_neg (far h)))
          · exact goes_of ((slideMove_recovery hs).trans (if_pos (cond h)))
          · have counts := goes_of ((slideMove_recovery hs).trans ((if_neg (none h)).trans ((if_pos (close hsl)).trans
              (recoveryEnd_early (r := { r with recovery := r.recovery + 5 }) (Nat.add_lt_add_right hc 5)))))
            rwa [hs] at counts
          · exact goes_of ((slideMove_recovery hs).trans ((if_neg (none h)).trans ((if_pos (close hsl)).trans
              (recoveryEnd_due (r := { r with recovery := r.recovery + 5 }) hs (Nat.add_le_add_right hc 5)))))
          · have counts := goes_of ((slideMove_recovery hs).trans ((if_neg (none h)).trans (if_neg (far hsl))))
            rwa [hs] at counts
    · intro near
      have back {q : AxleRec} (hq : (r.returnMove i).returnEnd = q) : m = { q with history := pushSpeed i r.history } := by
        rw [moved, move_excluded i r hr, hq]
      refine ⟨fun h hc => ?_, fun hk hn hc => ?_, fun hk hn hc => ?_, fun hk hv hn => ?_⟩
      · rw [back (by rw [returnMove_held h, returnEnd_early hc])]
        exact ⟨hr, rfl⟩
      all_goals
        have near_iff : i.speed.validity = .valid ∧ i.near = true ↔ near := and_congr_right fun _ => near_iff i
        have fresh (hn : near) : i.speed.validity ≠ .stale := by
          rw [show i.speed.validity = .valid from hn.1]
          nofun
      · have counts := (returnMove_counts (r := r) hk (fresh hn)).trans (if_pos (near_iff.mpr hn))
        rw [back ((congrArg AxleRec.returnEnd counts).trans
          (returnEnd_early (r := { r with ret := r.ret + 5 }) (Nat.add_lt_add_right hc 5)))]
        exact ⟨hr, rfl⟩
      · have counts := (returnMove_counts (r := r) hk (fresh hn)).trans (if_pos (near_iff.mpr hn))
        rw [back ((congrArg AxleRec.returnEnd counts).trans
          (returnEnd_due (r := { r with ret := r.ret + 5 }) hr (Nat.add_le_add_right hc 5)))]
        rfl
      · have counts := (returnMove_counts (r := r) hk hv).trans (if_neg (near_iff.not.mpr hn))
        rw [back ((congrArg AxleRec.returnEnd counts).trans
          (returnEnd_early (r := { r with ret := 0 }) (Nat.zero_lt_succ _)))]
        exact ⟨hr, rfl⟩

end Sys2Proof.Machine

/-! The truck corrections of the adhesion monitor (R72 to R81): onset, dump, hold, settle, ceilings and sand. -/
namespace Sys2Proof.Machine

/-! ## Onset (R73) -/

section Onset
variable (k : Truck) (s : State)

theorem setSlide_self : s.setSlide k (s.am.trucks.get k) = s := by cases k <;> rfl

theorem setSlide_setSlide (c d : TruckSlide) : (s.setSlide k c).setSlide k d = s.setSlide k d := by cases k <;> rfl

theorem setSlide_get (c : TruckSlide) : (s.setSlide k c).am.trucks.get k = c := PerTruck.get_set_self ..

/-- The correction with an onset of the values read now. -/
def State.onset (s : State) (k : Truck) (c : TruckSlide) : TruckSlide :=
  c.dumpEnter s.clp.working (s.ble.trucks.get k).request ((s.chan k.bcChannel).usable 0)

theorem dumpEnter_eq : dumpEnter k s = s.setSlide k (s.onset k (s.am.trucks.get k)) := rfl

theorem onsetCeiling_unlimited (w : Settings) (effort : Nat) :
    onsetCeiling w .unlimited effort = .finite (10 * max w.ceilingFloor (w.ceilingFactor * effort / 100)) := by
  have scaled : w.ceilingFactor * (effort * 10) / 1000 = w.ceilingFactor * effort / 100 := by
    rw [← Nat.mul_assoc]
    exact Nat.mul_div_mul_right _ 100 (by decide)
  rw [onsetCeiling, Ceiling.lesser, scaled, Nat.mul_comm]

theorem onsetCeiling_finite (w : Settings) (old effort : Nat) : onsetCeiling w (.finite old) effort =
    .finite (10 * max w.ceilingFloor (w.ceilingFactor * min old (effort * 10) / 1000)) := by
  rw [onsetCeiling, Ceiling.lesser, Nat.mul_comm]

/-- The onset effort of the values read now (R73). -/
def State.effortNow (s : State) (k : Truck) : Nat :=
  onsetEffortOf s.clp.working.airGain (s.ble.trucks.get k).request ((s.chan k.bcChannel).usable 0)

/-- The correction with an onset whose ceiling is given. -/
def State.onsetWith (s : State) (k : Truck) (ceiling : Ceiling) (c : TruckSlide) : TruckSlide :=
  { c with
    correction := .dumping
    onsetRequest := (s.ble.trucks.get k).request
    onsetEffort := s.effortNow k
    ceiling := ceiling
    dump := 0
    dumpLimit := s.clp.working.dumpLimit
    settle := 0
    latched := false }

theorem onset_eq (c : TruckSlide) :
    s.onset k c = s.onsetWith k (onsetCeiling s.clp.working c.ceiling (s.effortNow k)) c := rfl

/-- An onset writes its items, the ceiling by R73. -/
theorem onset_spec (c : TruckSlide) : ∃ ceiling, s.onset k c = s.onsetWith k (.finite ceiling) c ∧
    (c.ceiling = .unlimited →
      ceiling = 10 * max s.clp.working.ceilingFloor (s.clp.working.ceilingFactor * s.effortNow k / 100)) ∧
    (∀ old, c.ceiling = .finite old → ceiling =
      10 * max s.clp.working.ceilingFloor (s.clp.working.ceilingFactor * min old (s.effortNow k * 10) / 1000)) := by
  rw [onset_eq]
  cases hc : c.ceiling with
  | unlimited =>
    rw [onsetCeiling_unlimited]
    exact ⟨_, rfl, fun _ => rfl, nofun⟩
  | finite old =>
    rw [onsetCeiling_finite]
    exact ⟨_, rfl, nofun, fun o ho => by rw [Ceiling.finite.inj ho]⟩

end Onset

/-! ## The transitions alone (R75 to R77) -/

section Alone
variable {k : Truck} {s : State}

theorem forcedReapply_due (hc : (s.am.trucks.get k).correction = .dumping)
    (hd : (s.am.trucks.get k).dumpLimit ≤ (s.am.trucks.get k).dump) : forcedReapply k s =
      trigger .slidePersist false
        (raise (.slidePersist k (min 65535 ((s.am.trucks.get k).persist + 1)) (s.am.trucks.get k).onsetEffort
            (s.am.trucks.get k).ceiling)
          (s.setSlide k { s.am.trucks.get k with
            correction := .reapplyHold
            hold := 0
            holdLimit := s.clp.working.reapplyHold
            persist := min 65535 ((s.am.trucks.get k).persist + 1)
            latched := false })) := by
  refine if_pos ?_
  simp [TruckSlide.reapplyDue, hc, hd]

theorem forcedReapply_not (h : (s.am.trucks.get k).correction ≠ .dumping ∨
    (s.am.trucks.get k).dump < (s.am.trucks.get k).dumpLimit) : forcedReapply k s = s := by
  refine if_neg ?_
  simp only [TruckSlide.reapplyDue, Bool.and_eq_true, beq_iff_eq, decide_eq_true_eq]
  rintro ⟨hc, hd⟩
  exact h.elim (fun h => h hc) (Nat.not_lt.mpr hd)

theorem settleEnd_due {c : TruckSlide} (hc : c.correction = .settling) (h : 1000 ≤ c.settle) :
    TruckSlide.settleEnd c = { c with correction := .idle } := by
  refine if_pos ?_
  simp [TruckSlide.settleDue, hc, h]

theorem settleEnd_not {c : TruckSlide} (h : c.correction ≠ .settling ∨ c.settle < 1000) : TruckSlide.settleEnd c = c := by
  refine if_neg ?_
  simp only [TruckSlide.settleDue, Bool.and_eq_true, beq_iff_eq, decide_eq_true_eq]
  rintro ⟨hc, hs⟩
  exact h.elim (fun h => h hc) (Nat.not_lt.mpr hs)

theorem holdEnd_not {c : TruckSlide} (hc : s.am.trucks.get k = c) (h : c.hold < c.holdLimit) : holdEnd k s = s := by
  subst hc
  refine if_neg ?_
  simp [TruckSlide.holdDue, h]

/-- At the end of a hold the correction goes by its latched request and the slide (R76). -/
theorem holdEnd_due {c : TruckSlide} (hg : s.am.trucks.get k = c) (hc : c.correction = .reapplyHold)
    (hd : c.holdLimit ≤ c.hold) : holdEnd k s = s.setSlide k
      (if c.latched then
        if s.slideStarts k then s.onset k c else { c with correction := .settling, settle := 0, latched := false }
      else { c with correction := .idle, latched := false }) := by
  subst hg
  have due : (s.am.trucks.get k).holdDue = true := by simp [TruckSlide.holdDue, hc, hd]
  unfold holdEnd
  dsimp only
  rw [if_pos due]
  split
  · split <;> rfl
  · rfl

end Alone

/-- Settles O34. -/
theorem forcedReapplyAndSettleEnd : Obligations.ForcedReapplyAndSettleEnd := by
  refine ⟨fun k s hp => ⟨fun hc hd => ?_, fun h => ?_⟩, fun k s hp => ⟨fun hc hs => ?_, fun h => ?_⟩⟩
  · exact effect_of_act_eq rfl hp (congrArg handSlide (forcedReapply_due hc hd))
  · exact effect_of_act_eq rfl hp (congrArg handSlide (forcedReapply_not h))
  · exact effect_of_act_eq rfl hp (congrArg (fun c => handSlide (s.setSlide k c)) (settleEnd_due hc hs))
  · exact effect_of_act_eq rfl hp (congrArg handSlide
      ((congrArg (fun c => s.setSlide k c) (settleEnd_not h)).trans (setSlide_self k s)))

/-- Settles O35. -/
theorem reapplyHoldEnds : Obligations.ReapplyHoldEnds := by
  intro k s hp c request bc effort put hc hd
  have ended := holdEnd_due (s := s) (k := k) rfl hc hd
  have alone {d : TruckSlide} (h : holdEnd k s = s.setSlide k d) : effect (.reapplyHoldEnd k none) s (put d) :=
    effect_of_act_eq rfl hp (congrArg handSlide h)
  refine ⟨fun hl hk hs => ?_, fun hl hn => ?_, fun hl => ?_⟩
  · have starts : s.slideStarts k = true := by rw [State.slideStarts, hk, hs]; rfl
    obtain ⟨ceiling, onset, unlimited, finite⟩ := onset_spec k s c
    refine ⟨ceiling, alone ?_, unlimited, finite⟩
    rw [ended, if_pos hl, if_pos starts, onset]
    rfl
  · have still : ¬s.slideStarts k = true := by
      rw [State.slideStarts, Bool.and_eq_true]
      rintro ⟨hk, hs⟩
      exact hn.elim (fun h => by rw [h] at hk; cases hk) (fun h => by rw [h] at hs; cases hs)
    refine alone ?_
    rw [ended, if_pos hl, if_neg still]
  · refine alone ?_
    rw [ended, if_neg (by rw [hl]; exact Bool.false_ne_true)]

/-! ## One update of a correction (R73 to R77) -/

section Step

/-- A hold after its timer and its latched request have moved. -/
def TruckSlide.held (starts : Bool) (c : TruckSlide) : TruckSlide := { c with hold := c.hold + 5, latched := c.latched || starts }

/-- The correction of a truck after one update. -/
def State.slideNext (s : State) (k : Truck) (c : TruckSlide) : TruckSlide :=
  match c.correction with
  | .idle => if s.slideStarts k then s.onset k c else c
  | .settling => if s.slideStarts k then s.onset k c else TruckSlide.settleEnd { c with settle := c.settle + 5 }
  | .dumping =>
    if s.sliding k then
      if c.dumpLimit ≤ c.dump + 5 then
        { c with
          dump := c.dump + 5
          correction := .reapplyHold
          hold := 0
          holdLimit := s.clp.working.reapplyHold
          persist := min 65535 (c.persist + 1)
          latched := false }
      else { c with dump := c.dump + 5 }
    else { c with correction := .settling, settle := 0, dump := 0 }
  | .reapplyHold =>
    let h := c.held (s.slideStarts k)
    if h.holdLimit ≤ h.hold then
      if h.latched then
        if s.slideStarts k then s.onset k h else { h with correction := .settling, settle := 0, latched := false }
      else { h with correction := .idle, latched := false }
    else h

/-- The dump has run to its bound (R75). -/
def State.dumpBound (s : State) (k : Truck) (c : TruckSlide) : Prop :=
  c.correction = .dumping ∧ s.sliding k = true ∧ c.dumpLimit ≤ c.dump + 5

section Next
variable {k : Truck} {s : State} {c : TruckSlide}

theorem slideNext_idle (hc : c.correction = .idle) :
    s.slideNext k c = if s.slideStarts k then s.onset k c else c := by simp only [State.slideNext, hc]

theorem slideNext_settling (hc : c.correction = .settling) : s.slideNext k c =
    if s.slideStarts k then s.onset k c else TruckSlide.settleEnd { c with settle := c.settle + 5 } := by
  simp only [State.slideNext, hc]

theorem slideNext_bound (h : s.dumpBound k c) : s.slideNext k c =
    { c with
      dump := c.dump + 5
      correction := .reapplyHold
      hold := 0
      holdLimit := s.clp.working.reapplyHold
      persist := min 65535 (c.persist + 1)
      latched := false } := by
  obtain ⟨hc, hs, hb⟩ := h
  simp only [State.slideNext, hc, hs, hb, if_true]

theorem slideNext_dumps (hc : c.correction = .dumping) (hs : s.sliding k = true) (hb : c.dump + 5 < c.dumpLimit) :
    s.slideNext k c = { c with dump := c.dump + 5 } := by
  simp only [State.slideNext, hc, hs, Nat.not_le.mpr hb, if_true, if_false]

theorem slideNext_recovers (hc : c.correction = .dumping) (hs : s.sliding k = false) :
    s.slideNext k c = { c with correction := .settling, settle := 0, dump := 0 } := by
  simp only [State.slideNext, hc, hs, Bool.false_eq_true, if_false]

theorem slideNext_holds (hc : c.correction = .reapplyHold) (hh : c.hold + 5 < c.holdLimit) :
    s.slideNext k c = c.held (s.slideStarts k) := by
  have on : ¬(c.held (s.slideStarts k)).holdLimit ≤ (c.held (s.slideStarts k)).hold := Nat.not_le.mpr hh
  simp only [State.slideNext, hc, on, if_false]

theorem slideNext_held (hc : c.correction = .reapplyHold) (hh : c.holdLimit ≤ c.hold + 5) : s.slideNext k c =
    if (c.held (s.slideStarts k)).latched then
      if s.slideStarts k then s.onset k (c.held (s.slideStarts k))
      else { c.held (s.slideStarts k) with correction := .settling, settle := 0, latched := false }
    else { c.held (s.slideStarts k) with correction := .idle, latched := false } := by
  have ends : (c.held (s.slideStarts k)).holdLimit ≤ (c.held (s.slideStarts k)).hold := hh
  simp only [State.slideNext, hc, ends, if_true]

end Next

variable (k : Truck) (s : State)

theorem Correction.eq_cases (c : Correction) : c = .idle ∨ c = .settling ∨ c = .dumping ∨ c = .reapplyHold := by
  cases c <;> decide

section Cases
variable {k : Truck} {s : State} {c : TruckSlide} (hg : s.am.trucks.get k = c)
include hg

theorem correctionStep_idle (hc : c.correction = .idle) :
    correctionStep k s = if s.slideStarts k then s.setSlide k (s.onset k c) else s := by
  subst hg
  simp only [correctionStep, hc, dumpEnter_eq]

theorem correctionStep_settling (hc : c.correction = .settling) : correctionStep k s =
    if s.slideStarts k then s.setSlide k (s.onset k c)
    else s.setSlide k (TruckSlide.settleEnd { c with settle := c.settle + 5 }) := by
  subst hg
  simp only [correctionStep, hc, dumpEnter_eq]

theorem correctionStep_dumping (hc : c.correction = .dumping) : correctionStep k s =
    if s.sliding k then forcedReapply k (s.setSlide k { c with dump := c.dump + 5 })
    else s.setSlide k { c with correction := .settling, settle := 0, dump := 0 } := by
  subst hg
  simp only [correctionStep, hc]

theorem correctionStep_reapplyHold (hc : c.correction = .reapplyHold) :
    correctionStep k s = holdEnd k (s.setSlide k (c.held (s.slideStarts k))) := by
  subst hg
  simp only [correctionStep, hc, TruckSlide.held]

end Cases

theorem not_dumpBound {k : Truck} {s : State} {c : TruckSlide} (h : c.correction ≠ .dumping) : ¬s.dumpBound k c :=
  fun bound => h bound.1

/-- A correction's update writes the correction of its truck, at the bound of a dump with notice and trigger. -/
theorem correctionStep_spec :
    (s.dumpBound k (s.am.trucks.get k) → correctionStep k s = trigger .slidePersist false
      (raise (.slidePersist k (min 65535 ((s.am.trucks.get k).persist + 1)) (s.am.trucks.get k).onsetEffort
        (s.am.trucks.get k).ceiling) (s.setSlide k (s.slideNext k (s.am.trucks.get k))))) ∧
    (¬s.dumpBound k (s.am.trucks.get k) → correctionStep k s = s.setSlide k (s.slideNext k (s.am.trucks.get k))) := by
  generalize hg : s.am.trucks.get k = c
  have self : s = s.setSlide k c := hg ▸ (setSlide_self k s).symm
  obtain hc | hc | hc | hc := Correction.eq_cases c.correction
  · refine ⟨fun h => absurd h (not_dumpBound (by rw [hc]; nofun)), fun _ => ?_⟩
    rw [slideNext_idle hc, correctionStep_idle hg hc]
    split
    · rfl
    · exact self
  · refine ⟨fun h => absurd h (not_dumpBound (by rw [hc]; nofun)), fun _ => ?_⟩
    rw [slideNext_settling hc, correctionStep_settling hg hc]
    split <;> rfl
  · rw [correctionStep_dumping hg hc]
    cases hs : s.sliding k with
    | false =>
      rw [slideNext_recovers hc hs]
      refine ⟨fun h => ?_, fun _ => rfl⟩
      obtain ⟨-, slides, -⟩ := h
      rw [hs] at slides
      cases slides
    | true =>
      have get := setSlide_get k s { c with dump := c.dump + 5 }
      by_cases hb : c.dumpLimit ≤ c.dump + 5
      · rw [slideNext_bound ⟨hc, hs, hb⟩]
        refine ⟨fun _ => ?_, fun h => absurd ⟨hc, hs, hb⟩ h⟩
        have due := forcedReapply_due (k := k) (s := s.setSlide k { c with dump := c.dump + 5 }) (by rw [get]; exact hc)
          (by rw [get]; exact hb)
        rw [get, setSlide_setSlide] at due
        exact due
      · rw [slideNext_dumps hc hs (Nat.not_le.mp hb)]
        refine ⟨fun h => absurd h.2.2 hb, fun _ => ?_⟩
        exact forcedReapply_not (.inr (by rw [get]; exact Nat.not_le.mp hb))
  · rw [correctionStep_reapplyHold hg hc]
    refine ⟨fun h => absurd h (not_dumpBound (by rw [hc]; nofun)), fun _ => ?_⟩
    · have get := setSlide_get k s (c.held (s.slideStarts k))
      have starts : (s.setSlide k (c.held (s.slideStarts k))).slideStarts k = s.slideStarts k := by
        have same : ((s.setSlide k (c.held (s.slideStarts k))).am.trucks.get k).degraded = (s.am.trucks.get k).degraded := by
          rw [get, hg]
          rfl
        rw [State.slideStarts, State.sliding, same]
        rfl
      by_cases hd : (c.held (s.slideStarts k)).holdLimit ≤ (c.held (s.slideStarts k)).hold
      · have ended := holdEnd_due get hc hd
        rw [starts, setSlide_setSlide] at ended
        rw [slideNext_held hc hd]
        exact ended
      · rw [slideNext_holds hc (Nat.not_le.mp hd)]
        exact holdEnd_not get (Nat.not_le.mp hd)

/-- A correction's update writes the AM, and in it the correction of its truck alone. -/
theorem correctionStep_am : (correctionStep k s).am =
    { s.am with trucks := s.am.trucks.set k (s.slideNext k (s.am.trucks.get k)) } := by
  obtain ⟨bound, free⟩ := correctionStep_spec k s
  by_cases h : s.dumpBound k (s.am.trucks.get k)
  · rw [bound h, trigger_am, raise_am]
    rfl
  · rw [free h]
    rfl

theorem correctionStep_ble : (correctionStep k s).ble = s.ble := by
  obtain ⟨bound, free⟩ := correctionStep_spec k s
  by_cases h : s.dumpBound k (s.am.trucks.get k)
  · rw [bound h, trigger_ble, raise_ble, setSlide_ble]
  · rw [free h, setSlide_ble]

theorem correctionStep_working : (correctionStep k s).clp.working = s.clp.working := by
  obtain ⟨bound, free⟩ := correctionStep_spec k s
  by_cases h : s.dumpBound k (s.am.trucks.get k)
  · rw [bound h, trigger_working, raise_working, setSlide_clp]
  · rw [free h, setSlide_clp]

theorem correctionStep_get : (correctionStep k s).am.trucks.get k = s.slideNext k (s.am.trucks.get k) := by
  rw [correctionStep_am]
  exact PerTruck.get_set_self ..

end Step

/-- A truck slides with an axle of its own SLIDING while it is not DEGRADED (R72, R73). -/
theorem sliding_iff (k : Truck) (s : State) : s.sliding k = true ↔ (s.am.trucks.get k).degraded = false ∧
    ∃ a : Axle, Axle.truck a = k ∧ (s.am.axles.get a).state = .sliding := by
  simp only [State.sliding, Bool.and_eq_true, Bool.not_eq_true', List.any_eq_true, beq_iff_eq]
  refine and_congr_right fun _ => ?_
  cases k
  · constructor
    · rintro ⟨r, hr, hs⟩
      simp only [PerAxle.ofTruck, List.mem_cons, List.not_mem_nil, or_false] at hr
      obtain rfl | rfl | rfl := hr
      · exact ⟨.a1, rfl, hs⟩
      · exact ⟨.a2, rfl, hs⟩
      · exact ⟨.a3, rfl, hs⟩
    · rintro ⟨a, ha, hs⟩
      refine ⟨_, ?_, hs⟩
      cases a <;> simp [Axle.truck, PerAxle.ofTruck, PerAxle.get] at ha ⊢
  · constructor
    · rintro ⟨r, hr, hs⟩
      simp only [PerAxle.ofTruck, List.mem_cons, List.not_mem_nil, or_false] at hr
      obtain rfl | rfl | rfl := hr
      · exact ⟨.a4, rfl, hs⟩
      · exact ⟨.a5, rfl, hs⟩
      · exact ⟨.a6, rfl, hs⟩
    · rintro ⟨a, ha, hs⟩
      refine ⟨_, ?_, hs⟩
      cases a <;> simp [Axle.truck, PerAxle.ofTruck, PerAxle.get] at ha ⊢

end Sys2Proof.Machine

/-! An update of the adhesion monitor as a whole (R61, R72 to R81): the corrections after both trucks' steps, ceilings, sand, the
claims handed, and FAILSAFE. -/
namespace Sys2Proof.Machine

/-! ## The state that the corrections read -/

/-- The state after steps 1 to 4 of an AM update. -/
def State.monitored (s : State) (held : Bool) : State := degradedStep (axleStep held s.braking (vrefStep s))

section Monitored
variable (s : State) (held : Bool)

theorem vrefStep_am : ∃ v known lost,
    (vrefStep s).am = { s.am with vref := v, known := known, lostNotified := lost } := by
  by_cases h : 2 ≤ s.candidates.length
  · exact ⟨_, _, _, vrefStep_am_found s h⟩
  · rw [vrefStep_lost s (Nat.not_le.mp h)]
    split
    · exact ⟨_, _, _, rfl⟩
    · exact ⟨_, _, _, raise_am ..⟩

theorem vrefStep_axles : (vrefStep s).am.axles = s.am.axles := by
  obtain ⟨_, _, _, h⟩ := vrefStep_am s
  rw [h]

theorem vrefStep_trucks : (vrefStep s).am.trucks = s.am.trucks := by
  obtain ⟨_, _, _, h⟩ := vrefStep_am s
  rw [h]

theorem vrefStep_working : (vrefStep s).clp.working = s.clp.working := by
  have same := congrArg Clp.working (vrefStep_block s).link
  exact same

theorem monitored_working : (s.monitored held).clp.working = s.clp.working := vrefStep_working s

/-- The axle move of an AM update. -/
theorem monitored_axle (a : Axle) : ∃ i : AxleInput, i.speed = s.chan a.channel ∧ i.known = (s.monitored held).am.known ∧
    i.held = held ∧ (s.monitored held).am.axles.get a = (s.am.axles.get a).move i := by
  have speed : (vrefStep s).speed a = s.chan a.channel := by
    simp only [State.speed, State.chan, (vrefStep_block s).flm]
  refine ⟨(vrefStep s).axleInput held s.braking a, speed, rfl, rfl, ?_⟩
  rw [← vrefStep_axles s]
  exact PerAxle.get_map _ _ a

theorem monitored_truck (k : Truck) : (s.monitored held).am.trucks.get k = { s.am.trucks.get k with
    degraded := decide (2 ≤ (((s.monitored held).am.axles.ofTruck k).filter (fun r => r.state == .excluded)).length) } := by
  rw [← vrefStep_trucks s]
  cases k <;> rfl

end Monitored

/-! ## Both corrections -/

section Both
variable {s t : State} {k : Truck}

theorem sliding_congr (ha : t.am.axles = s.am.axles)
    (hd : (t.am.trucks.get k).degraded = (s.am.trucks.get k).degraded) : t.sliding k = s.sliding k := by
  simp only [State.sliding, ha, hd]

theorem slideNext_congr (ha : t.am.axles = s.am.axles) (hk : t.am.known = s.am.known)
    (hd : (t.am.trucks.get k).degraded = (s.am.trucks.get k).degraded) (hb : t.ble = s.ble) (hf : t.flm = s.flm)
    (hw : t.clp.working = s.clp.working) (c : TruckSlide) : t.slideNext k c = s.slideNext k c := by
  have slides : t.sliding k = s.sliding k := sliding_congr ha hd
  have starts : t.slideStarts k = s.slideStarts k := by rw [State.slideStarts, hk, slides, State.slideStarts]
  have onset (c : TruckSlide) : t.onset k c = s.onset k c := by simp only [State.onset, State.chan, hb, hf, hw]
  simp only [State.slideNext, slides, starts, onset, hw]

/-- Truck 2's correction is that of the state before truck 1's. -/
theorem slideNext_second (v : State) :
    (correctionStep .t1 v).slideNext .t2 v.am.trucks.t2 = v.slideNext .t2 v.am.trucks.t2 := by
  have am := correctionStep_am .t1 v
  exact slideNext_congr (by rw [am]) (by rw [am]) (by rw [am]; rfl) (correctionStep_ble .t1 v)
    (correctionStep_block v .t1).flm (correctionStep_working .t1 v) _

theorem corrections_am (v : State) : (correctionStep .t2 (correctionStep .t1 v)).am =
    { v.am with trucks := ⟨v.slideNext .t1 v.am.trucks.t1, v.slideNext .t2 v.am.trucks.t2⟩ } := by
  have second := correctionStep_am .t2 (correctionStep .t1 v)
  have first := correctionStep_am .t1 v
  have read : (correctionStep .t1 v).am.trucks.get .t2 = v.am.trucks.t2 := by rw [first]; rfl
  rw [read, slideNext_second, first] at second
  exact second

theorem corrections_working (v : State) :
    (correctionStep .t2 (correctionStep .t1 v)).clp.working = v.clp.working := by
  rw [correctionStep_working, correctionStep_working]

end Both

/-! ## The update -/

section Update
variable (s : State) (held : Bool) (k : Truck)

/-- A truck's slide state after an AM update, from the state after step 4. -/
def slideAfter (v : State) (k : Truck) : TruckSlide :=
  ((v.slideNext k (v.am.trucks.get k)).ceilingMove v.clp.working.ceilingRise (v.am.trucks.get k).correction).sandMove
    v.am.known v.am.vref

theorem amUpdate_connected (h : LinkState.connected s.flm.link = true) : (amUpdate held s).am =
    { (s.monitored held).am with
      trucks := ⟨slideAfter (s.monitored held) .t1, slideAfter (s.monitored held) .t2⟩ } := by
  have whole : amUpdate held s = handSlide (ceilingSandStep
      ((s.monitored held).am.trucks.map (fun k => k.correction))
      (correctionStep .t2 (correctionStep .t1 (s.monitored held)))) := if_pos h
  have am := corrections_am (s.monitored held)
  have working := corrections_working (s.monitored held)
  rw [whole]
  generalize correctionStep .t2 (correctionStep .t1 (s.monitored held)) = u at *
  simp only [handSlide, ceilingSandStep, am, working]
  rfl

theorem amUpdate_truck (h : LinkState.connected s.flm.link = true) :
    (amUpdate held s).am.trucks.get k = slideAfter (s.monitored held) k := by
  rw [amUpdate_connected s held h]
  cases k <;> rfl

theorem amUpdate_claim (h : LinkState.connected s.flm.link = true) :
    ((amUpdate held s).tpc.get k).claims.slide = ((amUpdate held s).am.trucks.get k).correction := by
  have whole : amUpdate held s = amStep held s := if_pos h
  rw [whole]
  cases k <;> rfl

theorem slideAfter_correction (v : State) :
    (slideAfter v k).correction = (v.slideNext k (v.am.trucks.get k)).correction := by
  unfold slideAfter TruckSlide.ceilingMove
  split <;> rfl

end Update

/-! ## With V_ref UNKNOWN (R65, R78) -/

section Unknown

/-- With V_ref UNKNOWN an axle is SLIDING only where R69 holds it so. -/
theorem move_sliding_of_unknown {i : AxleInput} {r : AxleRec} (hk : i.known = false) (hs : (r.move i).state = .sliding) :
    r.state = .sliding ∧ i.speed.validity ≠ .valid ∧ i.held = true := by
  by_cases he : r.state = .excluded
  · rw [move_excluded i r he, returnMove_held (.inl hk), AxleRec.returnEnd] at hs
    split at hs
    · cases hs
    · rw [show r.state = .sliding from hs] at he
      cases he
  · have live := move_of_not_excluded i r he (by rw [hs]; nofun)
    have state : (r.live i).state = .sliding := by rw [live] at hs; exact hs
    have free (h : i.speed.validity = .valid ∨ i.held = false) : False := by
      rw [live_unknown hk h] at state
      by_cases hr : r.state = .rolling
      · rw [unknownMove_rolling hr, hr] at state
        cases state
      · rw [unknownMove_other hr he] at state
        cases state
    have invalid : i.speed.validity ≠ .valid := fun h => free (.inl h)
    have stays : i.held = true := by
      cases hh : i.held with
      | true => rfl
      | false => exact (free (.inr hh)).elim
    rw [live_held ⟨invalid, .inr stays⟩] at state
    exact ⟨state, invalid, stays⟩

/-- Where no slide starts a dump, a correction that is not dumping enters none. -/
theorem slideNext_not_dumping {s : State} {k : Truck} {c : TruckSlide} (hs : s.slideStarts k = false)
    (hc : c.correction ≠ .dumping) : (s.slideNext k c).correction ≠ .dumping := by
  have still : ¬s.slideStarts k = true := Bool.eq_false_iff.mp hs
  obtain h | h | h | h := Correction.eq_cases c.correction
  · rw [slideNext_idle h, if_neg still]
    exact hc
  · rw [slideNext_settling h, if_neg still, TruckSlide.settleEnd]
    split
    · nofun
    · exact hc
  · exact absurd h hc
  · obtain on | ends := Nat.lt_or_ge (c.hold + 5) c.holdLimit
    · rw [slideNext_holds h on]
      exact hc
    · rw [slideNext_held h ends, if_neg still]
      split <;> nofun

/-- A dump that no slide goes on with ends an update with V_ref UNKNOWN in SETTLING, its sand request off. -/
theorem slideAfter_recovers {v : State} {k : Truck} (hc : (v.am.trucks.get k).correction = .dumping)
    (hs : v.sliding k = false) (hk : v.am.known = false) : slideAfter v k =
      { v.am.trucks.get k with correction := .settling, settle := 0, dump := 0, sand := false } := by
  have active : ¬((v.am.trucks.get k).correction = .idle ∧
      ({ v.am.trucks.get k with correction := .settling, settle := 0, dump := 0 } : TruckSlide).correction = .idle) := by
    rw [hc]
    exact fun h => nomatch h.1
  rw [slideAfter, slideNext_recovers hc hs, TruckSlide.ceilingMove, if_neg active, TruckSlide.sandMove, hk]
  simp

end Unknown

/-- Settles O36. -/
theorem dumpIsBounded : Obligations.DumpIsBounded := by
  refine ⟨fun k s => ?_, fun held k s hl => ?_⟩
  · intro c d request bc effort starts count bound put held onsetOf onset
    have next : d = s.slideNext k c := correctionStep_get k s
    obtain ⟨atBound, free⟩ := correctionStep_spec k s
    rw [← show d = s.slideNext k (s.am.trucks.get k) from next] at atBound free
    have onset_of {c : TruckSlide} (h : d = s.onset k c) : onsetOf c := by
      obtain ⟨ceiling, eq, unlimited, finite⟩ := onset_spec k s c
      exact ⟨ceiling, h.trans eq, unlimited, finite⟩
    have latched : held = c.held (s.slideStarts k) := rfl
    refine ⟨sliding_iff k s, fun h => ⟨next.trans (slideNext_bound h), atBound h⟩, free, fun hc hb => ?_,
      fun hc hh => next.trans (slideNext_holds hc hh), fun hc hh => ⟨fun hlat hst => ?_, fun hlat hst => ?_, fun hlat => ?_⟩,
      fun hc hst => ?_, fun hc hst => ?_, fun hc hst => ⟨fun hs => ?_, fun hs => ?_⟩,
      fun hc hs hb => next.trans (slideNext_dumps hc hs hb), fun hc hs => next.trans (slideNext_recovers hc hs)⟩
    · cases hs : s.sliding k with
      | true => rw [next, slideNext_bound ⟨hc, hs, hb⟩]; nofun
      | false => rw [next, slideNext_recovers hc hs]; nofun
    · exact onset_of (next.trans ((slideNext_held hc hh).trans ((if_pos hlat).trans (if_pos hst))))
    · exact next.trans ((slideNext_held hc hh).trans ((if_pos hlat).trans (if_neg (Bool.eq_false_iff.mp hst))))
    · exact next.trans ((slideNext_held hc hh).trans (if_neg (Bool.eq_false_iff.mp hlat)))
    · obtain hc | hc := hc
      · exact onset_of (next.trans ((slideNext_idle hc).trans (if_pos hst)))
      · exact onset_of (next.trans ((slideNext_settling hc).trans (if_pos hst)))
    · exact next.trans ((slideNext_idle hc).trans (if_neg (Bool.eq_false_iff.mp hst)))
    · exact next.trans ((slideNext_settling hc).trans ((if_neg (Bool.eq_false_iff.mp hst)).trans (settleEnd_not (.inr hs))))
    · exact next.trans ((slideNext_settling hc).trans ((if_neg (Bool.eq_false_iff.mp hst)).trans (settleEnd_due hc hs)))
  · intro t c d holds hk
    have am : t.am = _ := amUpdate_connected s held hl
    have known : (s.monitored held).am.known = false := by rw [am] at hk; exact hk
    have truck : d = slideAfter (s.monitored held) k := amUpdate_truck s held k hl
    have read := monitored_truck s held k
    have correction : ((s.monitored held).am.trucks.get k).correction = c.correction := by rw [read]
    have still : (s.monitored held).slideStarts k = false := by rw [State.slideStarts, known, Bool.false_and]
    refine ⟨fun hc => ?_, fun hc hn => ?_⟩
    · rw [truck, slideAfter_correction]
      exact slideNext_not_dumping still (correction ▸ hc)
    · have stops : (s.monitored held).sliding k = false := by
        rw [Bool.eq_false_iff, ne_eq, sliding_iff]
        rintro ⟨-, a, ha, hs⟩
        obtain ⟨i, speed, iknown, iheld, move⟩ := monitored_axle s held a
        obtain ⟨was, invalid, stays⟩ := move_sliding_of_unknown (iknown.trans known) (move ▸ hs)
        exact hn ⟨iheld ▸ stays, a, ha, was, speed ▸ invalid⟩
      have after := slideAfter_recovers (correction.trans hc) stops known
      rw [truck, after, read]

/-! ## Ceilings and sand (R79, R80) -/

section Ceilings
variable {v : State} {k : Truck} {c : TruckSlide}

theorem settleEnd_ceiling (c : TruckSlide) : (TruckSlide.settleEnd c).ceiling = c.ceiling := by
  rw [TruckSlide.settleEnd]
  split <;> rfl

/-- Only an onset moves a ceiling in the corrections. -/
theorem slideNext_ceiling (h : c.correction = .dumping ∨ (v.slideNext k c).correction ≠ .dumping) :
    (v.slideNext k c).ceiling = c.ceiling := by
  obtain hc | hc | hc | hc := Correction.eq_cases c.correction
  · rw [slideNext_idle hc] at h ⊢
    split
    next on => rw [if_pos on, hc] at h; exact h.elim nofun (fun h => absurd rfl h)
    next => rfl
  · rw [slideNext_settling hc] at h ⊢
    split
    next on => rw [if_pos on, hc] at h; exact h.elim nofun (fun h => absurd rfl h)
    next => exact settleEnd_ceiling _
  · cases hs : v.sliding k with
    | false => rw [slideNext_recovers hc hs]
    | true =>
      obtain on | ends := Nat.lt_or_ge (c.dump + 5) c.dumpLimit
      · rw [slideNext_dumps hc hs on]
      · rw [slideNext_bound ⟨hc, hs, ends⟩]
  · obtain on | ends := Nat.lt_or_ge (c.hold + 5) c.holdLimit
    · rw [slideNext_holds hc on]
      rfl
    · rw [slideNext_held hc ends] at h ⊢
      split
      next latched =>
        split
        next on => rw [if_pos latched, if_pos on, hc] at h; exact h.elim nofun (fun h => absurd rfl h)
        next => rfl
      next => rfl

theorem slideNext_degraded : (v.slideNext k c).degraded = c.degraded := by
  obtain hc | hc | hc | hc := Correction.eq_cases c.correction
  · rw [slideNext_idle hc]
    split <;> rfl
  · rw [slideNext_settling hc, TruckSlide.settleEnd]
    split
    · rfl
    · split <;> rfl
  · cases hs : v.sliding k with
    | false => rw [slideNext_recovers hc hs]
    | true =>
      obtain on | ends := Nat.lt_or_ge (c.dump + 5) c.dumpLimit
      · rw [slideNext_dumps hc hs on]
      · rw [slideNext_bound ⟨hc, hs, ends⟩]
  · obtain on | ends := Nat.lt_or_ge (c.hold + 5) c.holdLimit
    · rw [slideNext_holds hc on]
      rfl
    · rw [slideNext_held hc ends]
      split
      · split <;> rfl
      · rfl

theorem ceilingMove_idle {rate : Nat} (hc : c.correction = .idle) :
    c.ceilingMove rate .idle = { c with ceiling := Ceiling.rise rate c.ceiling } := if_pos ⟨rfl, hc⟩

theorem ceilingMove_active {rate : Nat} {before : Correction} (h : before ≠ .idle) : c.ceilingMove rate before = c :=
  if_neg fun both => h both.1

theorem ceilingMove_degraded (rate : Nat) (before : Correction) : (c.ceilingMove rate before).degraded = c.degraded := by
  rw [TruckSlide.ceilingMove]
  split <;> rfl

theorem slideAfter_degraded (v : State) (k : Truck) : (slideAfter v k).degraded = (v.am.trucks.get k).degraded :=
  (ceilingMove_degraded _ _).trans slideNext_degraded

theorem slideAfter_sand (v : State) (k : Truck) : (slideAfter v k).sand =
    (decide ((slideAfter v k).correction ≠ .idle) && v.am.known && decide (30000 < v.am.vref)) := by
  have active (x : Correction) : Correction.active x = decide (x ≠ .idle) := by cases x <;> rfl
  rw [← active]
  rfl

/-- From a correction under way the ceiling after an update is that after its step. -/
theorem slideAfter_ceiling (hc : (v.am.trucks.get k).correction ≠ .idle) :
    (slideAfter v k).ceiling = (v.slideNext k (v.am.trucks.get k)).ceiling := by
  rw [slideAfter, ceilingMove_active hc]
  rfl

/-- A correction that stays idle lets its ceiling rise. -/
theorem slideAfter_rises (hc : (v.am.trucks.get k).correction = .idle) (hd : (slideAfter v k).correction = .idle) :
    (slideAfter v k).ceiling = Ceiling.rise v.clp.working.ceilingRise (v.am.trucks.get k).ceiling := by
  have next : (v.slideNext k (v.am.trucks.get k)).correction = .idle := slideAfter_correction k v ▸ hd
  have kept := slideNext_ceiling (v := v) (k := k) (c := v.am.trucks.get k) (.inr (by rw [next]; nofun))
  rw [slideAfter, hc, ceilingMove_idle next, kept]
  rfl

end Ceilings

/-- Settles O37. -/
theorem sandRequests : Obligations.SandRequests := by
  intro held k s
  refine ⟨fun hl => ?_, fun hl => ?_⟩
  · intro t c d rise
    have am : t.am = _ := amUpdate_connected s held hl
    have truck : d = slideAfter (s.monitored held) k := amUpdate_truck s held k hl
    have read := monitored_truck s held k
    have correction : ((s.monitored held).am.trucks.get k).correction = c.correction := by rw [read]
    have ceiling : ((s.monitored held).am.trucks.get k).ceiling = c.ceiling := by rw [read]
    have known : t.am.known = (s.monitored held).am.known := by rw [am]
    have vref : t.am.vref = (s.monitored held).am.vref := by rw [am]
    have axles : t.am.axles = (s.monitored held).am.axles := by rw [am]
    refine ⟨?_, ?_, amUpdate_claim s held k hl, fun hc hd => ?_, fun hc hd => ?_, fun hc => ?_⟩
    · rw [known, vref, truck, slideAfter_sand]
    · rw [axles, truck, slideAfter_degraded, read]
    · have rises := slideAfter_rises (correction.trans hc) (truck ▸ hd)
      rw [monitored_working, ceiling] at rises
      rw [truck, rises]
      refine ⟨fun h => ?_, fun n h => ?_⟩ <;> rw [h] <;> rfl
    · have next : ((s.monitored held).slideNext k ((s.monitored held).am.trucks.get k)).correction ≠ .dumping :=
        slideAfter_correction k (s.monitored held) ▸ truck ▸ hd
      rw [truck, slideAfter_ceiling (correction ▸ hc), slideNext_ceiling (.inr next), ceiling]
    · have active : ((s.monitored held).am.trucks.get k).correction ≠ .idle := by rw [correction, hc]; nofun
      rw [truck, slideAfter_ceiling active, slideNext_ceiling (.inl (correction.trans hc)), ceiling]
  · have failsafe : amUpdate held s = amFailsafe s := if_neg (Bool.eq_false_iff.mp hl)
    rw [failsafe]
    cases k
    · refine ⟨rfl, rfl, rfl, rfl, rfl, rfl, rfl, rfl, rfl, rfl, rfl, rfl, rfl, rfl, fun a => ?_, rfl, rfl, rfl⟩
      cases a <;> exact ⟨rfl, rfl, rfl, rfl, rfl, rfl, rfl⟩
    · refine ⟨rfl, rfl, rfl, rfl, rfl, rfl, rfl, rfl, rfl, rfl, rfl, rfl, rfl, rfl, fun a => ?_, rfl, rfl, rfl⟩
      cases a <;> exact ⟨rfl, rfl, rfl, rfl, rfl, rfl, rfl⟩

end Sys2Proof.Machine

/-! The rows by time (R130 to R133, R143, R183): what a sample block holds, its seal, the overrun and the status report. -/
namespace Sys2Proof.Machine

/-! ## The capture writer's ask (R142) -/

section Writer

theorem pageWriting_iff (p : Option PortOp) : pageWriting p = true ↔ ∃ slot page bs, p = some (.page slot page bs) := by
  constructor
  · intro h
    unfold pageWriting at h
    split at h
    · exact ⟨_, _, _, rfl⟩
    · cases h
  · rintro ⟨_, _, _, rfl⟩
    rfl

theorem not_pageWriting_iff (p : Option PortOp) :
    pageWriting p = false ↔ ¬∃ slot page bs, p = some (.page slot page bs) := by
  rw [← pageWriting_iff, Bool.not_eq_true]

theorem pageReady_iff (r : OpenRecord) (fill : Word32) : r.pageReady fill = true ↔ r.copied < r.pre + r.post ∧
    min (r.copied + 4) (r.pre + r.post) ≤ (fill - (r.trigBlock - BitVec.ofNat 32 r.pre)).toNat := by
  simp only [OpenRecord.pageReady, Bool.and_eq_true, decide_eq_true_eq]
  exact Iff.rfl

/-- The writer asks for a page write. -/
def State.pageDue (s : State) : Prop := s.cap.state = .capturing ∧ s.store.writer = none ∧
  (¬∃ slot page bs, s.store.port = some (.page slot page bs)) ∧
  ∃ r, s.cap.record = some r ∧ r.close = none ∧ r.pageReady s.cap.fill = true

/-- The ask, spelt out. -/
theorem pageDue_iff (s : State) : s.pageDue ↔ s.cap.state = .capturing ∧ s.store.writer = none ∧
    (¬∃ slot page bs, s.store.port = some (.page slot page bs)) ∧
    ∃ r, s.cap.record = some r ∧ r.close = none ∧ r.copied < r.pre + r.post ∧
      min (r.copied + 4) (r.pre + r.post) ≤ (s.cap.fill - (r.trigBlock - BitVec.ofNat 32 r.pre)).toNat := by
  simp only [State.pageDue, pageReady_iff]

theorem writerAsk_due {s : State} (h : s.pageDue) : writerAsk s = { s with store := { s.store with writer := some .page } } := by
  obtain ⟨hs, hw, hp, r, hr, hc, ready⟩ := h
  have free := (not_pageWriting_iff _).mpr hp
  simp only [writerAsk, hs, hr, hc, hw, free, ready]
  rfl

theorem writerAsk_not {s : State} (h : ¬s.pageDue) : writerAsk s = s := by
  unfold writerAsk
  split
  next hs hr =>
    refine if_neg fun due => h ?_
    simp only [Bool.and_eq_true, Bool.not_eq_true', Option.isNone_iff_eq_none, not_pageWriting_iff] at due
    obtain ⟨⟨⟨hc, hw⟩, hp⟩, ready⟩ := due
    exact ⟨hs, hw, hp, _, hr, hc, ready⟩
  next => rfl

theorem writerAsk_form (s : State) : ∃ w, writerAsk s = { s with store := { s.store with writer := w } } := by
  by_cases h : s.pageDue
  · exact ⟨_, writerAsk_due h⟩
  · exact ⟨s.store.writer, writerAsk_not h⟩

/-- A record that ends, or is CLOSING, has no further page asked. -/
theorem writerAsk_ended {s : State} {r : OpenRecord} {c : CloseStatus} (hr : s.cap.record = some r)
    (hc : r.close = some c) : writerAsk s = s := by
  refine writerAsk_not ?_
  rintro ⟨-, -, -, q, hq, none, -⟩
  rw [hr] at hq
  rw [Option.some.inj hq, none] at hc
  cases hc

end Writer

/-! ## The overrun (R143) -/

section Overrun
variable {s : State} {r : OpenRecord}

theorem overruns_iff : s.overruns = true ↔ ∃ oldest rest r, s.cap.ring = oldest :: rest ∧ s.cap.record = some r ∧
    512 ≤ s.cap.ring.length ∧ r.close = none ∧ (s.cap.state = .allocating ∨ s.cap.state = .capturing) ∧
    r.copied ≤ r.offset oldest.seq ∧ r.covers oldest.seq = true := by
  have at' {o : SampleBlock} {l : List SampleBlock} {q : OpenRecord} (ho : s.cap.ring = o :: l)
      (hq : s.cap.record = some q) : s.overruns = true ↔ 512 ≤ s.cap.ring.length ∧ q.close = none ∧
        (s.cap.state = .allocating ∨ s.cap.state = .capturing) ∧ q.copied ≤ q.offset o.seq ∧ q.covers o.seq = true := by
    simp only [State.overruns, ho, hq, Bool.and_eq_true, Bool.or_eq_true, decide_eq_true_eq, Option.isNone_iff_eq_none,
      beq_iff_eq, and_assoc]
    exact Iff.rfl
  constructor
  · intro h
    have found := h
    unfold State.overruns at found
    split at found
    next o l q ho hq => exact ⟨o, l, q, ho, hq, (at' ho hq).mp h⟩
    next => cases found
  · rintro ⟨o, l, q, ho, hq, h⟩
    exact (at' ho hq).mpr h

theorem truncate_closes (hr : s.cap.record = some r) (hc : s.cap.state = .capturing) (hp : pageWriting s.store.port = false) :
    truncate s = enterClosing .truncated r { s with store := { s.store with writer := withdrawPage s.store.writer } } := by
  simp only [truncate, hr, hc, hp, and_self, if_true]

theorem truncate_waits (hr : s.cap.record = some r) (h : s.cap.state ≠ .capturing ∨ pageWriting s.store.port = true) :
    truncate s = { s with store := { s.store with writer := withdrawPage s.store.writer }
                          cap := { s.cap with record := some { r with close := some .truncated } } } := by
  have on : ¬(s.cap.state = .capturing ∧ pageWriting s.store.port = false) := by
    rintro ⟨hs, hp⟩
    exact h.elim (fun h => h hs) (fun h => by rw [hp] at h; cases h)
  simp only [truncate, hr, if_neg on]

theorem truncate_form (s : State) : ∃ st record store,
    truncate s = { s with cap := { s.cap with state := st, record := record }, store := store } := by
  obtain hr | ⟨r, hr⟩ : s.cap.record = none ∨ ∃ r, s.cap.record = some r := by cases s.cap.record <;> simp
  · refine ⟨s.cap.state, s.cap.record, s.store, ?_⟩
    simp only [truncate, hr]
    rw [← hr]
  · by_cases h : s.cap.state = .capturing ∧ pageWriting s.store.port = false
    · exact ⟨_, _, _, truncate_closes hr h.1 h.2⟩
    · refine ⟨s.cap.state, _, _, truncate_waits hr ?_⟩
      rw [not_and_or, Bool.not_eq_false] at h
      exact h

/-- A state with the block of `b` sealed: the ring, the block being filled and the marks. -/
def State.pushed (s : State) (b : SampleBlock) : State :=
  { s with cap := { s.cap with
    sealTicks := s.cap.sealTicks - 4
    ring := ringPush b s.cap.ring
    fill := s.cap.fill + 1
    marks := 0 } }

theorem sealBlock_due (h : 4 ≤ s.cap.sealTicks) :
    sealBlock s = writerAsk ((if s.overruns then truncate s else s).pushed s.sealedBlock) :=
  if_pos (decide_eq_true h)

theorem sealBlock_not (h : s.cap.sealTicks < 4) : sealBlock s = s :=
  if_neg (by rw [State.sealDue, decide_eq_true_eq]; exact Nat.not_le.mpr h)

theorem sealBlock_fits (h : 4 ≤ s.cap.sealTicks) (ho : s.overruns = false) :
    sealBlock s = writerAsk (s.pushed s.sealedBlock) := by
  rw [sealBlock_due h, ho]
  rfl

theorem sealBlock_overruns (h : 4 ≤ s.cap.sealTicks) (ho : s.overruns = true) :
    sealBlock s = writerAsk ((truncate s).pushed s.sealedBlock) := by
  rw [sealBlock_due h, ho]
  rfl

/-- A seal writes the ring and its counts, the state and record of the capture, and the store. -/
theorem sealBlock_form (h : 4 ≤ s.cap.sealTicks) : ∃ st record store, sealBlock s =
    { s.pushed s.sealedBlock with
      cap := { (s.pushed s.sealedBlock).cap with state := st, record := record }, store := store } := by
  obtain ⟨st, record, store, first⟩ : ∃ st record store, (if s.overruns then truncate s else s) =
      { s with cap := { s.cap with state := st, record := record }, store := store } := by
    split
    · exact truncate_form s
    · exact ⟨_, _, _, rfl⟩
  obtain ⟨w, asked⟩ := writerAsk_form ((if s.overruns then truncate s else s).pushed s.sealedBlock)
  refine ⟨st, record, { store with writer := w }, ?_⟩
  rw [sealBlock_due h, asked, first]
  simp only [State.pushed]

theorem ringPush_eq (b : SampleBlock) (ring : List SampleBlock) :
    ringPush b ring = (ring ++ [b]).drop (ring.length + 1 - 512) := by
  simp only [ringPush, Config.ringSize, List.length_append, List.length_cons, List.length_nil, Nat.zero_add]

end Overrun

/-! ## The status report (R183) -/

section Report
variable {s : State} {n : Int}

theorem reportDue_due (hr : s.clp.reportIn = some n) (hn : n ≤ 0) (hi : s.clp.working.reportInterval ≠ 0) : reportDue s =
    { s with clp := { s.clp with
      reportSlot := some (s.statusContent (s.time - BitVec.ofNat 32 (-n).toNat))
      reportIn := some (n + s.clp.working.reportInterval) } } := by
  simp only [reportDue, hr, hn, hi, if_true, if_false]

theorem reportDue_ends (hr : s.clp.reportIn = some n) (hn : n ≤ 0) (hi : s.clp.working.reportInterval = 0) :
    reportDue s = { s with clp := { s.clp with reportIn := none } } := by
  simp only [reportDue, hr, hn, hi, if_true]

theorem reportDue_not (hr : s.clp.reportIn = some n) (hn : 0 < n) : reportDue s = s := by
  simp only [reportDue, hr, Int.not_le.mpr hn, if_false]

end Report

/-- Settles O43. -/
theorem timedRows : Obligations.TimedRows := by
  intro s hp
  refine ⟨?_, ?_, fun h => ⟨sealBlock s, effect_of_act rfl hp, ?_⟩, ?_, fun h => ?_, fun n hr hn hi => ?_,
    fun n hr hn hi => ?_, fun n hr hn => ?_⟩
  · cases h1 : (s.am.trucks.get .t1).ceiling <;> cases h2 : (s.am.trucks.get .t2).ceiling <;>
      simp only [State.quantities, h1, h2] <;> rfl
  · exact rfl
  · obtain ⟨st, record, store, form⟩ := sealBlock_form h
    have kept {α : Type} (F : State → α) := congrArg F form
    have ring : (sealBlock s).cap.ring = ringPush s.sealedBlock s.cap.ring := by rw [form]; simp only [State.pushed]
    refine ⟨ring.trans (ringPush_eq s.sealedBlock s.cap.ring), rfl, rfl, rfl, fun k => ?_, kept fun t => t.cap.fill,
      kept fun t => t.cap.sealTicks, kept fun t => t.cap.marks, kept fun t => t.cap.waiting, kept fun t => t.cap.dropped,
      kept fun t => t.cap.storeFull, ?_, fun ho => ?_, fun r ho hr => ?_⟩
    · cases k <;> exact ⟨rfl, rfl, rfl, rfl, rfl, rfl, rfl, rfl, rfl, rfl, rfl, rfl, rfl⟩
    · rw [form]
      rfl
    · have fill : (sealBlock s).cap.fill = s.cap.fill + 1 := kept fun t => t.cap.fill
      have due := pageDue_iff (s.pushed s.sealedBlock)
      rw [fill, sealBlock_fits h ho]
      obtain ⟨w, asked⟩ := writerAsk_form (s.pushed s.sealedBlock)
      refine ⟨?_, ?_, fun hd => ?_, fun hd => ?_⟩
      · rw [asked]
        rfl
      · rw [asked]
        rfl
      · rw [writerAsk_due (due.mpr hd)]
        rfl
      · rw [writerAsk_not (due.not.mpr hd)]
        rfl
    · obtain ⟨hs, hc⟩ : (s.cap.state = .allocating ∨ s.cap.state = .capturing) ∧ r.close = none := by
        obtain ⟨_, _, q, -, hq, -, hc, hs, -⟩ := overruns_iff.mp ho
        rw [hr] at hq
        exact ⟨hs, Option.some.inj hq ▸ hc⟩
      rw [sealBlock_overruns h ho]
      refine ⟨fun hcap hport => ?_, fun hwait => ?_⟩
      · rw [truncate_closes hr hcap ((not_pageWriting_iff _).mpr hport), writerAsk_ended rfl rfl]
        exact ⟨rfl, rfl, rfl⟩
      · have waits : s.cap.state ≠ .capturing ∨ pageWriting s.store.port = true :=
          hwait.imp (fun h => by rw [h]; nofun) (pageWriting_iff _).mpr
        rw [truncate_waits hr waits, writerAsk_ended rfl rfl]
        exact ⟨rfl, rfl, rfl⟩
  · rw [overruns_iff]
    simp only [covers_iff]
    exact Iff.rfl
  · exact effect_of_act_eq rfl hp (sealBlock_not h)
  · exact effect_of_act_eq rfl hp (reportDue_due hr hn hi)
  · exact effect_of_act_eq rfl hp (reportDue_ends hr hn hi)
  · exact effect_of_act_eq rfl hp (reportDue_not hr hn)

end Sys2Proof.Machine

/-! The completions of the capture writer (R139 to R146, R157) and MARK (R135). -/
namespace Sys2Proof.Machine

/-! ## A page written (R142 to R145, R157) -/

section Page
variable (s : State)

/-- The entry of a slot, its items as they are. -/
theorem dir_set_entry {slot : Nat} (h : slot < s.store.dir.length) : s.store.dir.set slot (s.entry slot) = s.store.dir := by
  simp [State.entry, List.getD_eq_getElem?_getD, h]

/-- The state after a page write, before what follows it. -/
def State.paged (v : Bool) (slot page : Nat) (bs : List SampleBlock) (s : State) : State :=
  if v then countBlocks slot bs.length (storePage slot page bs v (portIdle s)) else storePage slot page bs v (portIdle s)

theorem pageWriteDone_page {slot page : Nat} {bs : List SampleBlock} {r : OpenRecord} (v : Bool)
    (hp : s.store.port = some (.page slot page bs)) (hr : s.cap.record = some r) :
    pageWriteDone v s = afterPage v r (s.paged v slot page bs) := by
  have open' : (s.paged v slot page bs).cap.record = some r := by
    cases v <;> exact hr
  simp only [pageWriteDone, hp]
  rw [← State.paged, open']

/-- The record's items after a page write: a verified page counts its blocks. -/
def RecordInfo.counted (v : Bool) (n : Nat) (i : RecordInfo) : RecordInfo :=
  if v then { i with blocks := i.blocks + n } else i

theorem RecordInfo.counted_blocks (v : Bool) (n : Nat) (i : RecordInfo) :
    (i.counted v n).blocks = if v then i.blocks + n else i.blocks := by
  cases v <;> rfl

theorem paged_eq {slot : Nat} {i : RecordInfo} (v : Bool) (page : Nat) (bs : List SampleBlock)
    (hl : slot < s.store.dir.length) (hi : (s.entry slot).record = some i) : s.paged v slot page bs =
      { s with
        store := { s.store with
          port := none
          dir := s.store.dir.set slot { s.entry slot with record := some (i.counted v bs.length) } }
        nv := { s.nv with pages := pagesWrite (slot * 320 + page) ⟨bs, v⟩ s.nv.pages } } := by
  have self : { s.entry slot with record := some i } = s.entry slot := by rw [← hi]
  have entry : (storePage slot page bs v (portIdle s)).entry slot = s.entry slot := rfl
  cases v with
  | true =>
    simp only [State.paged, if_true, countBlocks, State.updRecord, entry, hi]
    rfl
  | false =>
    simp only [State.paged, Bool.false_eq_true, if_false, RecordInfo.counted, self, dir_set_entry s hl]
    rfl

/-- The slot's entry after a page write. -/
theorem paged_entry {slot : Nat} {i : RecordInfo} (v : Bool) (page : Nat) (bs : List SampleBlock)
    (hl : slot < s.store.dir.length) (hi : (s.entry slot).record = some i) :
    (s.paged v slot page bs).entry slot = { s.entry slot with record := some (i.counted v bs.length) } := by
  rw [paged_eq s v page bs hl hi]
  exact entry_setEntry_self s _ hl

theorem enterClosing_eq (c : CloseStatus) (r : OpenRecord) : enterClosing c r s =
    { s with
      cap := { s.cap with state := .closing, record := some { r with close := some c } }
      store := { s.store with
        dir := s.store.dir.set r.slot ⟨.closing, (s.entry r.slot).record.map (fun i => { i with close := some c })⟩
        dirQueue := s.store.dirQueue ++ [⟨r.slot, .closing⟩] } } := rfl

section After
variable {s} {r : OpenRecord} {v : Bool}

theorem afterPage_decided {c : CloseStatus} (h : r.close = some c) : afterPage v r s = enterClosing c r s := by
  simp only [afterPage, h]

theorem afterPage_failed (h : r.close = none) : afterPage false r s = enterClosing .storeError r s := by
  simp only [afterPage, h]

theorem afterPage_last (h : r.close = none) (hl : r.pre + r.post ≤ r.copied) :
    afterPage true r s = enterClosing .complete r s := by
  have last : r.span ≤ r.copied := hl
  simp only [afterPage, h, if_pos last]

theorem afterPage_on (h : r.close = none) (hl : r.copied < r.pre + r.post) : afterPage true r s = writerAsk s := by
  have on : ¬r.span ≤ r.copied := Nat.not_le.mpr hl
  simp only [afterPage, h, if_neg on]

/-- What follows a page write is a close or an ask. -/
theorem afterPage_cases (v : Bool) (r : OpenRecord) (s : State) :
    (∃ c, afterPage v r s = enterClosing c r s) ∨ afterPage v r s = writerAsk s := by
  cases hc : r.close with
  | some c => exact .inl ⟨c, afterPage_decided hc⟩
  | none =>
    cases v with
    | false => exact .inl ⟨_, afterPage_failed hc⟩
    | true =>
      obtain hl | hl := Nat.lt_or_ge r.copied (r.pre + r.post)
      · exact .inr (afterPage_on hc hl)
      · exact .inl ⟨_, afterPage_last hc hl⟩

/-- What follows a page write leaves the memory, the port and the blocks counted. -/
theorem afterPage_leaves (v : Bool) (r : OpenRecord) (s : State) : (afterPage v r s).store.port = s.store.port ∧
    (afterPage v r s).nv = s.nv ∧ (r.slot < s.store.dir.length →
      ((afterPage v r s).entry r.slot).record.map (fun j => j.blocks) = (s.entry r.slot).record.map (fun j => j.blocks)) ∧
    afterPage v r s = { s with cap := (afterPage v r s).cap, store := (afterPage v r s).store } := by
  obtain ⟨c, h⟩ | h := afterPage_cases v r s
  · rw [h]
    refine ⟨rfl, rfl, fun hl => ?_, rfl⟩
    have entry := entry_setEntry_self s ⟨.closing, (s.entry r.slot).record.map (fun i => { i with close := some c })⟩ hl
    have closed : (enterClosing c r s).entry r.slot = _ := (entry_of_dir _ rfl r.slot).trans entry
    rw [closed, Option.map_map]
    rfl
  · obtain ⟨w, asked⟩ := writerAsk_form s
    rw [h, asked]
    exact ⟨rfl, rfl, fun _ => rfl, rfl⟩

end After

/-- With the port idle and no waiting write the ask is the page being ready. -/
theorem pageDue_open {r : OpenRecord} (hs : s.cap.state = .capturing) (hr : s.cap.record = some r) (hc : r.close = none)
    (hp : s.store.port = none) : s.pageDue ↔ s.store.writer = none ∧ r.copied < r.pre + r.post ∧
      min (r.copied + 4) (r.pre + r.post) ≤ (s.cap.fill - (r.trigBlock - BitVec.ofNat 32 r.pre)).toNat := by
  rw [pageDue_iff]
  constructor
  · rintro ⟨-, hw, -, q, hq, -, ready⟩
    rw [hr] at hq
    exact ⟨hw, Option.some.inj hq ▸ ready⟩
  · rintro ⟨hw, ready⟩
    exact ⟨hs, hw, (by rw [hp]; rintro ⟨_, _, _, h⟩; cases h), r, hr, hc, ready⟩

end Page

/-! ## The other completions (R139, R145, R151) -/

section Completions
variable {s : State} {slot : Nat}

theorem reclaimEraseDone_erased (h : s.store.port = some (.reclaimErase slot)) : reclaimEraseDone s =
    { s with
      store := { s.store with port := none, writer := some .opening,
                              dir := s.store.dir.set slot { s.entry slot with state := .capturing } }
      nv := { s.nv with pages := pagesErase slot s.nv.pages, stored := s.nv.stored.set slot .free } } := by
  simp only [reclaimEraseDone, h]
  rfl

/-- The state with an opening entry stored. -/
def State.opened (slot : Nat) (i : RecordInfo) (s : State) : State := State.setStored slot (.capturing i) (portIdle s)

theorem openingEntryWritten_open {i : RecordInfo} {r : OpenRecord} (h : s.store.port = some (.opening slot i))
    (hr : s.cap.record = some r) (hc : r.close = none) : openingEntryWritten s =
      writerAsk { s.opened slot i with cap := { s.cap with state := .capturing } } := by
  have held : (State.setStored slot (.capturing i) (portIdle s)).cap.record = some r := hr
  simp only [openingEntryWritten, h, held, hc]
  rw [← hr]
  rfl

theorem openingEntryWritten_ended {i : RecordInfo} {r : OpenRecord} {c : CloseStatus}
    (h : s.store.port = some (.opening slot i)) (hr : s.cap.record = some r) (hc : r.close = some c) :
    openingEntryWritten s = enterClosing c r (s.opened slot i) := by
  have held : (State.setStored slot (.capturing i) (portIdle s)).cap.record = some r := hr
  simp only [openingEntryWritten, h, held, hc]
  rfl

theorem closingEntryWritten_closed {i : RecordInfo} {c : CloseStatus}
    (h : s.store.port = some (.dir ⟨slot, .closing⟩ i)) (hc : i.close = some c) :
    let u : State := raise (.recordClosed i.number slot c i.blocks i.source i.isProtected)
      { s with
        store := { s.store with port := none, dir := s.store.dir.set slot { s.entry slot with state := .closed } }
        nv := { s.nv with stored := s.nv.stored.set slot (.closed i) } }
    closingEntryWritten s =
      takePending s.cap.waiting { u with cap := { u.cap with state := .idle, record := none } } := by
  intro u
  have waiting : u.cap.waiting = s.cap.waiting := congrArg Cap.waiting (raise_cap ..)
  simp only [closingEntryWritten, h, recordClosed, hc]
  rw [← waiting]
  rfl

end Completions

/-! ## The pending triggers (R146) -/

section Pending
variable {s : State}

theorem lt_of_entry_closed {slot : Nat} (h : (s.entry slot).state = .closed) : slot < s.store.dir.length := by
  by_contra hl
  rw [State.entry, List.getD_eq_getElem?_getD, List.getElem?_eq_none (Nat.not_lt.mp hl)] at h
  cases h

/-- A trigger granted a slot opens a record of its own items. -/
theorem openCapture_record {slot : Nat} (t : PendingTrigger) (pre : Nat) (hn : s.store.nextNumber ≤ Config.lastRecord)
    (h : s.freeSlot = some slot ∨ s.freeSlot = none ∧ ∃ old, s.reclaimSlot = some (slot, old)) :
    (openCapture t pre s).cap.record =
      some ⟨s.store.nextNumber, slot, t.source, t.block, t.time, pre, t.post, t.mask, 0, none⟩ := by
  obtain hf | ⟨hf, old, hr⟩ := h
  · rw [openCapture_free s t pre hf hn]
    rfl
  · obtain ⟨-, ⟨closed, -⟩, -⟩ := reclaimSlot_eq_some s hr
    have entry := entry_setEntry_self s ⟨.erasing, some (openingInfo t pre s)⟩ (lt_of_entry_closed closed)
    have gone := slotGone_spec slot old (s.setEntry slot ⟨.erasing, some (openingInfo t pre s)⟩) (by rw [entry]; nofun)
    rw [openCapture_reclaim s t pre hf hr hn]
    exact congrArg (fun n => some (OpenRecord.mk n slot t.source t.block t.time pre t.post t.mask 0 none)) gone.nextNumber

theorem openCapture_record_refused (t : PendingTrigger) (pre : Nat)
    (h : Config.lastRecord < s.store.nextNumber ∨ s.freeSlot = none ∧ s.reclaimSlot = none) :
    (openCapture t pre s).cap.record = s.cap.record := by
  rw [openCapture_refused s t pre h, openCapture.refuse]
  dsimp only
  rw [raise_cap]

theorem joinPending_form (r : OpenRecord) (ts : List PendingTrigger) (s : State) :
    ∃ dir, joinPending r ts s = { s with store := { s.store with dir := dir } } := by
  induction ts generalizing s with
  | nil => exact ⟨s.store.dir, rfl⟩
  | cons t ts ih =>
    rw [joinPending]
    split
    · obtain ⟨dir, joined⟩ := ih (secondary t.source t.block r s)
      exact ⟨dir, joined⟩
    · exact ih s

/-- The triggers within the window become secondaries, in order. -/
theorem joinPending_entry {r : OpenRecord} (ts : List PendingTrigger) {s : State} {i : RecordInfo}
    (hl : r.slot < s.store.dir.length) (hi : (s.entry r.slot).record = some i) :
    ((joinPending r ts s).entry r.slot).record =
      some ((ts.filter (fun q => r.covers q.block)).foldl (fun i q => addSecondary q.source (r.offset q.block) i) i) := by
  induction ts generalizing s i with
  | nil => exact hi
  | cons t ts ih =>
    rw [joinPending, List.filter_cons]
    split
    · have joined := updRecord_entry s (addSecondary t.source (r.offset t.block)) hl hi
      have length : r.slot < (secondary t.source t.block r s).store.dir.length := by
        rw [secondary, State.updRecord, State.setEntry, List.length_set]
        exact hl
      exact ih length joined
    · exact ih hl hi

theorem takePending_refused {p : PendingTrigger} {rest : List PendingTrigger}
    (h : (openCapture p (min p.pre (s.olderInRing p.block)) { s with cap := { s.cap with waiting := rest } }).cap.record =
      none) : takePending (p :: rest) s =
        takePending rest (openCapture p (min p.pre (s.olderInRing p.block)) { s with cap := { s.cap with waiting := rest } }) := by
  simp only [takePending, h]

theorem takePending_granted {p : PendingTrigger} {rest : List PendingTrigger} {r : OpenRecord} {v : State}
    (hv : openCapture p (min p.pre (s.olderInRing p.block)) { s with cap := { s.cap with waiting := rest } } = v)
    (h : v.cap.record = some r) : takePending (p :: rest) s =
      joinPending r rest { v with cap := { v.cap with waiting := keepPending r rest } } := by
  subst hv
  simp only [takePending, h]

theorem keepPending_eq (r : OpenRecord) (ts : List PendingTrigger) :
    keepPending r ts = ts.filter (fun q => decide (r.pre + r.post ≤ r.offset q.block)) := by
  refine List.filter_congr fun q _ => ?_
  rw [OpenRecord.covers, ← decide_not]
  exact decide_eq_decide.mpr Nat.not_lt

end Pending

/-- Settles O44. -/
theorem captureCompletions : Obligations.CaptureCompletions := by
  refine ⟨fun s hp => ?_, fun s => rfl, fun p rest s => ?_⟩
  · intro ready idle asking closes
    refine ⟨fun slot page bs v r i hport hr hslot hl hi => ?_, fun slot h => effect_of_act_eq rfl hp (reclaimEraseDone_erased h),
      fun slot i r hport hr => ?_, fun slot i c hport hc => effect_of_act_eq rfl hp (closingEntryWritten_closed hport hc)⟩
    · intro j counted
      subst hslot
      have done := pageWriteDone_page s v hport hr
      have paged := paged_eq s v page bs hl hi
      have entry := paged_entry s v page bs hl hi
      obtain ⟨port, nv, blocks, form⟩ := afterPage_leaves v r (s.paged v r.slot page bs)
      have length : r.slot < (s.paged v r.slot page bs).store.dir.length := by
        rw [paged, List.length_set]
        exact hl
      have closed {c : CloseStatus} (h : afterPage v r (s.paged v r.slot page bs) = enterClosing c r (s.paged v r.slot page bs)) :
          closes c r (some j) (afterPage v r (s.paged v r.slot page bs)) := by
        rw [h, enterClosing_eq, entry, paged]
        exact ⟨rfl, congrArg (fun dir => Store.mk dir _ _ _ _ _ _ _ _ _ _) (List.set_set ..)⟩
      refine ⟨pageWriteDone v s, effect_of_act rfl hp, ?_⟩
      rw [done]
      refine ⟨?_, ?_, fun a ha => ?_, ?_, ?_, ?_, fun c hc => closed (afterPage_decided hc), fun hc hv => ?_, fun hc hv hl => ?_,
        fun hc hv hl hs => ?_, ?_⟩
      · rw [port, paged]
      · rw [nv, paged]
        exact pagesRead_write_self ..
      · rw [nv, paged]
        exact pagesRead_write_other _ _ _ ha _
      · rw [nv, paged]
      · rw [nv, paged]
      · rw [blocks length, entry]
        exact congrArg some (RecordInfo.counted_blocks ..)
      · subst hv
        exact closed (afterPage_failed hc)
      · subst hv
        exact closed (afterPage_last hc hl)
      · subst hv
        have due := pageDue_open (s.paged true r.slot page bs) (by rw [paged]; exact hs) (by rw [paged]; exact hr) hc (by rw [paged])
        rw [afterPage_on hc hl]
        rw [paged] at due ⊢
        refine ⟨?_, fun h => ?_, fun h => ?_⟩
        · obtain ⟨w, asked⟩ := writerAsk_form { s with store := _, nv := _ }
          rw [asked]
        · rw [writerAsk_due (due.mpr h)]
          rfl
        · rw [writerAsk_not (due.not.mpr h)]
          rfl
      · refine form.trans ?_
        rw [nv]
        generalize afterPage v r (s.paged v r.slot page bs) = t
        rw [paged]
    · refine ⟨openingEntryWritten s, effect_of_act rfl hp, ?_, fun hc => ?_, fun c hc => ?_⟩
      · cases hc : r.close with
        | none =>
          rw [openingEntryWritten_open hport hr hc]
          obtain ⟨w, asked⟩ := writerAsk_form { s.opened slot i with cap := { s.cap with state := .capturing } }
          rw [asked]
          rfl
        | some c =>
          rw [openingEntryWritten_ended hport hr hc]
          rfl
      · rw [openingEntryWritten_open hport hr hc]
        have due := pageDue_open { s.opened slot i with cap := { s.cap with state := .capturing } } rfl hr hc rfl
        refine ⟨?_, fun h => ?_, fun h => ?_⟩
        · obtain ⟨w, asked⟩ := writerAsk_form { s.opened slot i with cap := { s.cap with state := .capturing } }
          rw [asked]
        · rw [writerAsk_due (due.mpr h)]
          rfl
        · rw [writerAsk_not (due.not.mpr h)]
          rfl
      · rw [openingEntryWritten_ended hport hr hc]
        exact ⟨rfl, rfl⟩
  · intro ago pre v t
    refine ⟨fun slot hn h => openCapture_record p pre hn h, fun hf hr => openCapture_refused _ p pre (.inr ⟨hf, hr⟩),
      fun h => takePending_refused h, fun r h => ?_⟩
    intro offset
    have granted : t = joinPending r rest { v with cap := { v.cap with waiting := keepPending r rest } } :=
      takePending_granted rfl h
    obtain ⟨dir, joined⟩ := joinPending_form r rest { v with cap := { v.cap with waiting := keepPending r rest } }
    refine ⟨?_, ?_, fun i hl hi => ?_⟩
    · rw [granted, joined, keepPending_eq]
      rfl
    · rw [granted, joined]
    · rw [granted]
      exact joinPending_entry rest hl hi

/-! ## MARK (R135) -/

section Mark
variable {s t : State}

theorem serveMark_notAdmitted (h : s.clp.working.admits .hostMark = false) (p : List Byte) :
    serveMark p s = .reply .wrongState [] s := by
  simp only [serveMark, h, Bool.false_eq_true, if_false, refuse]

theorem serveMark_admitted (h : s.clp.working.admits .hostMark = true) (p : List Byte) :
    serveMark p s = .reply (markReply s (trigger .hostMark false s)) [] (trigger .hostMark false s) := by
  simp only [serveMark, h, if_true]

theorem markReply_idle (h : s.cap.state = .idle) : markReply s t = if t.cap.record.isSome then .ok else .storeFull := by
  simp only [markReply, h]

theorem markReply_closing (h : s.cap.state = .closing) : markReply s t = if s.cap.waiting.length < 4 then .ok else .busy := by
  simp only [markReply, h]

theorem markReply_open {o : OpenRecord} (h : s.cap.state = .allocating ∨ s.cap.state = .capturing) (ho : s.cap.record = some o) :
    markReply s t = if o.covers s.cap.fill then .ok else if s.cap.waiting.length < 4 then .ok else .busy := by
  obtain h | h := h <;> simp only [markReply, h, ho, Option.any_some]

end Mark

theorem freeSlot_of_store {s t : State} (h : t.store = s.store) : t.freeSlot = s.freeSlot := by
  simp only [State.freeSlot, State.entry, h]

theorem reclaimSlot_of_store {s t : State} (h : t.store = s.store) : t.reclaimSlot = s.reclaimSlot := by
  have each : t.reclaimable = s.reclaimable :=
    funext fun i => by rw [State.reclaimable, entry_of_dir s (congrArg Store.dir h) i, State.reclaimable]
  rw [State.reclaimSlot, each, State.reclaimSlot]

/-- A slot for a capture, FREE or reclaimed. -/
theorem slot_of_isSome {s : State} (h : s.freeSlot.isSome = true ∨ s.reclaimSlot.isSome = true) :
    ∃ slot, s.freeSlot = some slot ∨ s.freeSlot = none ∧ ∃ old, s.reclaimSlot = some (slot, old) := by
  cases hf : s.freeSlot with
  | some slot => exact ⟨slot, .inl rfl⟩
  | none =>
    rw [hf] at h
    obtain ⟨⟨slot, old⟩, hr⟩ := Option.isSome_iff_exists.mp (h.resolve_left nofun)
    exact ⟨slot, .inr ⟨rfl, old, hr⟩⟩

/-- Settles O45. -/
theorem markReplies : Obligations.MarkReplies := by
  intro tag s f r m ready
  obtain ⟨q, arrived⟩ : ∃ q, r = { s with clp := { s.clp with queue := q } } := arrive_form f s
  have working : r.clp.working = s.clp.working := by rw [arrived]
  have cap : r.cap = s.cap := by rw [arrived]
  refine ⟨fun ha => replies_of_serve rfl rfl ready rfl (serveMark_notAdmitted (working ▸ ha) _), fun ha => ?_⟩
  intro t
  have admitted : r.clp.working.admits .hostMark = true := working ▸ ha
  have replies_of {st : ReplyStatus} (h : markReply r t = st) : replies m s f st [] t :=
    h ▸ replies_of_serve rfl rfl ready rfl (serveMark_admitted admitted _)
  have store : (markSource .hostMark r).store = s.store := by rw [arrived]; rfl
  have free : (markSource .hostMark r).freeSlot = s.freeSlot := freeSlot_of_store store
  have reclaim : (markSource .hostMark r).reclaimSlot = s.reclaimSlot := reclaimSlot_of_store store
  have number : (markSource .hostMark r).store.nextNumber = s.store.nextNumber := by rw [store]
  refine ⟨fun hi hn hf => replies_of ?_, fun hi hr hf => replies_of ?_, fun o hs ho => ?_, fun hc hl => replies_of ?_,
    fun hc hl => replies_of ?_⟩
  · obtain ⟨slot, granted⟩ := slot_of_isSome hf
    rw [← free, ← reclaim] at granted
    have record := openCapture_record ((markSource .hostMark r).triggerNow .hostMark)
      (min r.clp.working.preTrigger r.cap.ring.length) (number.trans_le hn) granted
    rw [← trigger_idle r (cap ▸ hi) admitted] at record
    rw [markReply_idle (cap ▸ hi), record]
    rfl
  · rw [← free, ← reclaim, ← number] at hf
    have record := openCapture_record_refused ((markSource .hostMark r).triggerNow .hostMark)
      (min r.clp.working.preTrigger r.cap.ring.length) hf
    rw [← trigger_idle r (cap ▸ hi) admitted, show (markSource .hostMark r).cap.record = r.cap.record from rfl, cap, hr] at record
    rw [markReply_idle (cap ▸ hi), record]
    rfl
  · intro offset
    have reply : markReply r t = _ := markReply_open (cap ▸ hs) (cap ▸ ho)
    rw [cap] at reply
    have covers := covers_iff o s.cap.fill
    refine ⟨fun h => replies_of ?_, fun h hl => replies_of ?_, fun h hl => replies_of ?_⟩
    · rw [reply, if_pos (covers.mpr h)]
    · rw [reply, if_neg (covers.not.mpr (Nat.not_lt.mpr h)), if_pos hl]
    · rw [reply, if_neg (covers.not.mpr (Nat.not_lt.mpr h)), if_neg (Nat.not_lt.mpr hl)]
  · rw [markReply_closing (cap ▸ hc), cap, if_pos hl]
  · rw [markReply_closing (cap ▸ hc), cap, if_neg (Nat.not_lt.mpr hl)]

end Sys2Proof.Machine

/-! The lead on the consist line (R98, R104, R105, R113, R117, R119, R121): what it sends next, its cycle, the ends of frames. -/
namespace Sys2Proof.Machine

/-! ## What the lead sends next (R104, R105, R121) -/

section Next
variable (s : State)

/-- The roster has no entry of an identity. -/
theorem rosterEntry_eq_none (i : Nat) : s.rosterEntry i = none ↔ s.csl.roster.any (fun e => e.ident == i) = false := by
  rw [State.rosterEntry, List.find?_eq_none, List.any_eq_false]

theorem rosterEntry_ne_none (i : Nat) : s.rosterEntry i ≠ none ↔ s.csl.roster.any (fun e => e.ident == i) = true := by
  rw [ne_eq, rosterEntry_eq_none, Bool.not_eq_false]

theorem nextExchange_first {passed : List Nat} {i : Nat} {rest : List Nat} (hp : ∀ j ∈ passed, s.rosterEntry j = none)
    (hi : s.rosterEntry i ≠ none) : nextExchange s.csl.roster (passed ++ i :: rest) = some (i, rest) := by
  induction passed with
  | nil => exact if_pos ((rosterEntry_ne_none s i).mp hi)
  | cons j passed ih =>
    have none := (rosterEntry_eq_none s j).mp (hp j List.mem_cons_self)
    rw [List.cons_append, nextExchange, none, if_neg Bool.false_ne_true]
    exact ih fun k hk => hp k (List.mem_cons_of_mem j hk)

theorem nextExchange_none {todo : List Nat} (h : ∀ j ∈ todo, s.rosterEntry j = none) :
    nextExchange s.csl.roster todo = none := by
  induction todo with
  | nil => rfl
  | cons j todo ih =>
    have none := (rosterEntry_eq_none s j).mp (h j List.mem_cons_self)
    rw [nextExchange, none, if_neg Bool.false_ne_true]
    exact ih fun k hk => h k (List.mem_cons_of_mem j hk)

/-- The lead may begin a frame of its own. -/
def State.lineFree (s : State) : Prop :=
  s.csl.role = .lead ∧ s.csl.conflict = false ∧ s.csl.line = .idle ∧ s.csl.releases = []

variable {s}

theorem lineFree_iff : (s.leading && s.csl.line == .idle && s.csl.releases.isEmpty) = true ↔ s.lineFree := by
  simp only [Bool.and_eq_true, leading_iff, beq_iff_eq, List.isEmpty_iff, and_assoc]
  exact Iff.rfl

theorem lineNext_not (h : ¬s.lineFree) : lineNext s = s := if_neg (lineFree_iff.not.mpr h)

theorem lineNext_exchange {o : ShareSet} {passed : List Nat} {i : Nat} {rest : List Nat} (h : s.lineFree)
    (ho : s.ble.offered = some o) (ht : s.csl.todo = passed ++ i :: rest) (hp : ∀ j ∈ passed, s.rosterEntry j = none)
    (hi : s.rosterEntry i ≠ none) : lineNext s =
      { s with csl := { s.csl with
        todo := rest, line := .sending (s.shareFrame i o) (some (.exchange i s.csl.cycle)) } } := by
  simp only [lineNext, lineFree_iff.mpr h, if_true, ho, ht, nextExchange_first s hp hi]
  rfl

/-- No exchange of the cycle is left to make. -/
def State.exchangesMade (s : State) : Prop := s.ble.offered = none ∨ ∀ j ∈ s.csl.todo, s.rosterEntry j = none

theorem lineNext_made (h : s.lineFree) (hm : s.exchangesMade) :
    lineNext s = nextOpening { s with csl := { s.csl with todo := [] } } := by
  have free := lineFree_iff.mpr h
  obtain ho | hm := hm
  · simp only [lineNext, free, if_true, ho]
  · have none := nextExchange_none s hm
    cases ho : s.ble.offered <;> simp only [lineNext, free, if_true, ho, none]

theorem nextOpening_not (h : s.csl.roll = none ∨ s.csl.openings = 0) : nextOpening s = s := by
  unfold nextOpening
  split
  next => rfl
  next r hr =>
    have zero := h.resolve_left (by rw [hr]; nofun)
    rw [zero, if_neg (Nat.lt_irrefl 0)]

theorem nextOpening_opens {r : RollCall} (hr : s.csl.roll = some r) (ho : 0 < s.csl.openings) :
    nextOpening s = openingFrame r s := by
  simp only [nextOpening, hr, if_pos ho]

theorem openingFrame_enrol {r : RollCall} {p : PendingEnrol} (h : r.pendingEnrol = some p) :
    openingFrame r s = sendFrame ⟨s.ownIdentity, p.ident, .enrol⟩ (some (.enrol p.ident))
      { s with csl := { s.csl with openings := s.csl.openings - 1 } } := by
  simp only [openingFrame, h]

theorem openingFrame_roll {r : RollCall} {l h : Nat} {rest : List (Nat × Nat)} (hp : r.pendingEnrol = none)
    (hs : r.stack = (l, h) :: rest) : openingFrame r s =
      sendFrame ⟨s.ownIdentity, 4294967295, .roll l h⟩ (some (.roll l h))
        { s with csl := { s.csl with openings := s.csl.openings - 1, roll := some { r with stack := rest } } } := by
  simp only [openingFrame, hp, hs]
  rfl

theorem openingFrame_none {r : RollCall} (hp : r.pendingEnrol = none) (hs : r.stack = []) : openingFrame r s = s := by
  simp only [openingFrame, hp, hs]

theorem openingFrame_form (r : RollCall) (s : State) : ∃ line openings roll, openingFrame r s =
    { s with csl := { s.csl with line := line, openings := openings, roll := roll } } := by
  cases hp : r.pendingEnrol with
  | some p => exact ⟨_, _, s.csl.roll, openingFrame_enrol hp⟩
  | none =>
    cases hs : r.stack with
    | nil => exact ⟨s.csl.line, s.csl.openings, s.csl.roll, openingFrame_none hp hs⟩
    | cons lh rest => exact ⟨_, _, _, openingFrame_roll (l := lh.1) (h := lh.2) hp hs⟩

theorem nextOpening_form (s : State) : ∃ line openings roll, nextOpening s =
    { s with csl := { s.csl with line := line, openings := openings, roll := roll } } := by
  cases hr : s.csl.roll with
  | none => exact ⟨s.csl.line, s.csl.openings, s.csl.roll, nextOpening_not (.inl hr)⟩
  | some r =>
    obtain ho | ho := Nat.eq_zero_or_pos s.csl.openings
    · exact ⟨s.csl.line, s.csl.openings, s.csl.roll, nextOpening_not (.inr ho)⟩
    · obtain ⟨line, openings, roll, form⟩ := openingFrame_form r s
      exact ⟨line, openings, roll, (nextOpening_opens hr ho).trans form⟩

/-- What the lead sends next writes the line, the exchanges left, the openings left and the roll call. -/
theorem lineNext_form (s : State) : ∃ line todo openings roll, lineNext s =
    { s with csl := { s.csl with line := line, todo := todo, openings := openings, roll := roll } } := by
  by_cases h : s.lineFree
  · unfold lineNext
    rw [if_pos (lineFree_iff.mpr h)]
    split
    · exact ⟨_, _, s.csl.openings, s.csl.roll, rfl⟩
    · obtain ⟨line, openings, roll, form⟩ := nextOpening_form { s with csl := { s.csl with todo := [] } }
      exact ⟨line, [], openings, roll, form⟩
  · exact ⟨s.csl.line, s.csl.todo, s.csl.openings, s.csl.roll, lineNext_not h⟩

end Next

/-! ## The cycle (R104, R105, R117) -/

section Cycle
variable {s : State}

/-- The number of the cycle that begins. -/
def State.cycleNext (s : State) : Word16 := if s.csl.cycleBegun then s.csl.cycle + 1 else s.csl.cycle

/-- The roster with its ages raised. -/
def State.agedRoster (s : State) : List Entry := s.csl.roster.map fun e =>
  { e with last := e.last.map (fun l => { l with age := min 65535 (l.age + 1) }) }

/-- A consist cycle begun, before what the lead sends. -/
def State.cycleState (s : State) : State :=
  { s with csl := { s.csl with
    cycleTicks := s.csl.cycleTicks - 8
    cycle := s.cycleNext
    cycleBegun := true
    roster := s.agedRoster
    todo := if s.csl.conflict = true ∨ s.ble.offered = none then [] else exchangesOf s.cycleNext s.agedRoster
    openings := if s.csl.roll ≠ none ∧ s.csl.conflict = false then 4 else 0 } }

theorem consistCycleStart_due (hr : s.csl.role = .lead) (ht : 8 ≤ s.csl.cycleTicks) :
    consistCycleStart s = lineNext s.cycleState := by
  have due : s.cycleDue = true := by
    rw [State.cycleDue, hr, decide_eq_true ht]
    rfl
  have todo : (s.csl.conflict || s.ble.offered.isNone) = true ↔ s.csl.conflict = true ∨ s.ble.offered = none := by
    rw [Bool.or_eq_true, Option.isNone_iff_eq_none]
  have openings : (s.csl.roll.isSome && !s.csl.conflict) = true ↔ s.csl.roll ≠ none ∧ s.csl.conflict = false := by
    rw [Bool.and_eq_true, Bool.not_eq_true', Option.isSome_iff_ne_none]
  rw [consistCycleStart, if_pos due]
  dsimp only
  rw [if_congr todo rfl rfl, if_congr openings rfl rfl]
  rfl

theorem consistCycleStart_not (h : s.csl.role ≠ .lead ∨ s.csl.cycleTicks < 8) : consistCycleStart s = s := by
  refine if_neg ?_
  simp only [State.cycleDue, Bool.and_eq_true, beq_iff_eq, decide_eq_true_eq, not_and_or, Nat.not_le]
  exact h

/-- An exchange of the cycle is of an entry held. -/
theorem rosterEntry_of_exchange {n : Word16} {i : Nat} (h : i ∈ exchangesOf n s.csl.roster) : s.rosterEntry i ≠ none := by
  obtain ⟨e, he, rfl⟩ := List.mem_map.mp h
  rw [rosterEntry_ne_none, List.any_eq_true]
  exact ⟨e, List.mem_of_mem_filter he, beq_self_eq_true _⟩

end Cycle

/-! ## Frames sent (R98, R102, R119) -/

section Sent
variable {s : State} {f : ConsistFrame}

theorem consistFrameSent_opens {w : Window} (h : s.csl.line = .sending f (some w)) :
    consistFrameSent s = { s with csl := { s.csl with line := .window w } } := by
  simp only [consistFrameSent, h]

theorem consistFrameSent_frees (h : s.csl.line = .sending f none) :
    consistFrameSent s = lineNext { s with csl := { s.csl with line := .idle } } := by
  simp only [consistFrameSent, h]
  rfl

theorem releaseTransmit_sends {o : OwedRelease} {rest : List OwedRelease} (hl : s.csl.line = .idle)
    (hr : s.csl.releases = o :: rest) (h : s.csl.role ≠ .lead ∨ s.csl.conflict = false) : releaseTransmit s =
      { s with csl := { s.csl with releases := rest, line := .sending ⟨o.source, o.dest, .release⟩ none } } := by
  have free : (s.csl.line == .idle && !(s.csl.role == .lead && s.csl.conflict)) = true := by
    rw [hl]
    obtain h | h := h
    · simp [h]
    · simp [h]
  simp only [releaseTransmit, free, if_true, hr]
  rfl

theorem releaseTransmit_barred (h : s.csl.role = .lead) (hc : s.csl.conflict = true) : releaseTransmit s = s := by
  simp [releaseTransmit, h, hc]

end Sent

/-- Settles O46. -/
theorem leadSends : Obligations.LeadSends := by
  refine ⟨fun s => ?_, fun s hp => ⟨fun hr ht => ?_, fun h => effect_of_act_eq rfl hp (consistCycleStart_not h),
    fun f w h => effect_of_act_eq rfl hp (consistFrameSent_opens h), fun f h hr => effect_of_act_eq rfl hp ?_,
    fun f h _ => effect_of_act_eq rfl hp (consistFrameSent_frees h),
    fun o rest hl hr => ⟨fun h => effect_of_act_eq rfl hp (releaseTransmit_sends hl hr h),
      fun h hc => effect_of_act_eq rfl hp (releaseTransmit_barred h hc)⟩⟩⟩
  · intro share free made u opens
    have made_opens (hf : free) (hm : made) : lineNext s = nextOpening u := lineNext_made hf hm
    refine ⟨lineNext_not, fun o passed i rest hf ho ht hp hi => lineNext_exchange hf ho ht hp hi,
      fun hf hm h => (made_opens hf hm).trans (nextOpening_not h), fun r hf hm hr ho => ?_⟩
    have first : lineNext s = openingFrame r u := (made_opens hf hm).trans (nextOpening_opens (s := u) hr ho)
    refine ⟨fun p hpend => ?_, fun l h rest hpend hs => first.trans (openingFrame_roll hpend hs),
      fun hpend hs => first.trans (openingFrame_none hpend hs)⟩
    rw [first, openingFrame_enrol hpend, sendFrame]
    simp only [opens, u, hr]
    rfl
  · intro n roster due
    have start := consistCycleStart_due hr ht
    obtain ⟨line, todo, openings, roll, form⟩ := lineNext_form s.cycleState
    refine ⟨consistCycleStart s, effect_of_act rfl hp, ?_, start, ?_⟩
    · rw [start, form]
      rfl
    · rw [start]
      have kept {α : Type} (F : State → α) := congrArg F form
      refine ⟨kept fun t => t.csl.cycle, kept fun t => t.csl.cycleTicks, kept fun t => t.csl.cycleBegun,
        kept fun t => t.csl.roster, (kept fun t => t.csl.role).trans hr, kept fun t => t.csl.conflict,
        kept fun t => t.csl.releases, fun hc => ?_, fun o i rest hc hl hrel ho hd => ?_⟩
      · have barred : ¬s.cycleState.lineFree := fun free => by
          have clear : s.csl.conflict = false := free.2.1
          rw [hc] at clear
          cases clear
        rw [lineNext_not barred]
        exact ⟨rfl, rfl⟩
      · have calls : ¬(s.csl.conflict = true ∨ s.ble.offered = none) := by
          rw [hc, ho]
          nofun
        have todo : s.cycleState.csl.todo = [] ++ i :: rest := (if_neg calls).trans hd
        have held : s.cycleState.rosterEntry i ≠ none :=
          rosterEntry_of_exchange (s := s.cycleState) (n := n) (show i ∈ due from hd ▸ List.mem_cons_self)
        rw [lineNext_exchange (s := s.cycleState) ⟨hr, hc, hl, hrel⟩ ho todo nofun held]
        exact ⟨rfl, rfl⟩
  · rw [consistFrameSent_frees h]
    exact lineNext_not fun free => hr free.1

end Sys2Proof.Machine

/-! The decision of an exchange (R106 to R108, R117): the good answer, the counts of an entry, LOST and ACTIVE again. -/
namespace Sys2Proof.Machine

/-! ## The roster (R116) -/

section Roster
variable (s : State) (i : Nat)

/-- A change of an entry that leaves its identity. -/
def KeepsIdent (f : Entry → Entry) : Prop := ∀ e, (f e).ident = e.ident

theorem rosterEntry_updEntry {f : Entry → Entry} (hf : KeepsIdent f) :
    (updEntry i f s).rosterEntry i = (s.rosterEntry i).map f := by
  simp only [State.rosterEntry, updEntry]
  generalize s.csl.roster = l
  induction l with
  | nil => rfl
  | cons e l ih =>
    rw [List.map_cons, List.find?_cons, List.find?_cons]
    by_cases h : e.ident = i
    · have named : ((f e).ident == i) = true := by rw [hf e, h, beq_self_eq_true]
      rw [if_pos h, named, h, beq_self_eq_true]
      rfl
    · have other : (e.ident == i) = false := beq_eq_false_iff_ne.mpr h
      rw [if_neg h, other]
      exact ih

theorem updEntry_updEntry {f : Entry → Entry} (hf : KeepsIdent f) (g : Entry → Entry) :
    updEntry i g (updEntry i f s) = updEntry i (fun e => g (f e)) s := by
  have twice : ((s.csl.roster.map (fun e => if e.ident = i then f e else e)).map (fun e => if e.ident = i then g e else e)) =
      s.csl.roster.map (fun e => if e.ident = i then g (f e) else e) := by
    rw [List.map_map]
    refine List.map_congr_left fun e _ => ?_
    rw [Function.comp_apply]
    by_cases h : e.ident = i
    · rw [if_pos h, if_pos h, if_pos ((hf e).trans h)]
    · rw [if_neg h, if_neg h, if_neg h]
  exact congrArg (fun l => { s with csl := { s.csl with roster := l } }) twice

theorem rosterEntry_of_csl {s t : State} (h : t.csl.roster = s.csl.roster) (i : Nat) : t.rosterEntry i = s.rosterEntry i := by
  simp only [State.rosterEntry, h]

theorem lineNext_roster : (lineNext s).csl.roster = s.csl.roster := by
  obtain ⟨_, _, _, _, form⟩ := lineNext_form s
  rw [form]

end Roster

/-! ## A STATUS handed to the ES (R86) -/

section Status
variable (ident : Nat) (flag : Bool) (s : State)

theorem esStatus_block : BlockKeeps s (esStatus ident flag s) := by
  by_cases h : flag = true ∧ s.es.seenFlag ident ≠ some true
  · have noted : BlockKeeps s (recorded ident flag true s) := .update s _ _ _ _
    rw [esStatus_arises s h]
    cases hl : s.es.latch with
    | false => rw [emergencyCause_clear (recorded ident flag true s) _ hl]; exact noted.trans (emergencyEnter_block _ _)
    | true => rw [emergencyCause_set (recorded ident flag true s) _ hl]; exact noted.trigger _ _
  · rw [esStatus_quiet s h]
    exact .update s _ _ _ _

@[simp] theorem esStatus_am : (esStatus ident flag s).am = s.am := by
  by_cases h : flag = true ∧ s.es.seenFlag ident ≠ some true
  · rw [esStatus_arises s h]
    cases hl : s.es.latch with
    | false => rw [emergencyCause_clear (recorded ident flag true s) _ hl]; simp [emergencyEnter, recorded]
    | true => rw [emergencyCause_set (recorded ident flag true s) _ hl]; exact trigger_am ..
  · rw [esStatus_quiet s h]
    rfl

/-- Without its flag a STATUS writes the ES alone. -/
theorem esStatus_clear : esStatus ident false s = recorded ident false false s := esStatus_quiet s (by nofun)

end Status

/-! ## An entry's counts and states (R107, R108) -/

section Entries
variable {i : Nat} {e : Entry} {s : State} {l : LastStatus}

/-- A good answer stored. -/
def Entry.stored (l : LastStatus) (x : Entry) : Entry :=
  { x with miss := 0, good := if x.state = .lost then x.good + 1 else x.good, last := some l }

/-- A miss counted. -/
def Entry.misses (x : Entry) : Entry :=
  { x with miss := min 255 (x.miss + 1), good := if x.state = .lost then 0 else x.good }

theorem goodAnswer_eq (l : LastStatus) : Entry.goodAnswer l = Entry.stored l := by
  funext x
  cases h : x.state <;> simp [Entry.goodAnswer, Entry.stored, h]

theorem missed_eq : Entry.missed = Entry.misses := by
  funext x
  cases h : x.state <;> simp [Entry.missed, Entry.misses, h]

theorem stored_ident (l : LastStatus) : KeepsIdent (Entry.stored l) := fun _ => rfl

theorem misses_ident : KeepsIdent Entry.misses := fun _ => rfl

theorem entryLost_due (h : s.rosterEntry i = some e) (he : e.state = .active) (hm : 3 ≤ e.miss) : entryLost i s =
    trigger .unitLost false (raise (.unitLost i ((e.last.map (fun l => l.capacity)).getD 0) s.csl.cycle)
      (updEntry i (fun e => { e with state := .lost, good := 0 }) s)) := by
  simp only [entryLost, h]
  refine if_pos ?_
  simp [Entry.lostDue, he, hm]

theorem entryLost_not (h : s.rosterEntry i = some e) (hn : ¬(e.state = .active ∧ 3 ≤ e.miss)) : entryLost i s = s := by
  simp only [entryLost, h]
  refine if_neg ?_
  simpa [Entry.lostDue] using hn

theorem entryJoined_due (h : s.rosterEntry i = some e) (he : e.state = .lost) (hg : 3 ≤ e.good) (hl : e.last = some l) :
    entryJoined i s = raise (.unitJoined i l.capacity) (esStatus i l.flags.emergency
      (updEntry i (fun e => { e with state := .active, good := 0 }) s)) := by
  have due : e.joinedDue = true := by simp [Entry.joinedDue, he, hg]
  simp only [entryJoined, h, due, Entry.lastCapacity, hl, if_true, Option.map_some, Option.getD_some]

theorem entryJoined_not (h : s.rosterEntry i = some e) (hn : ¬(e.state = .lost ∧ 3 ≤ e.good)) : entryJoined i s = s := by
  simp only [entryJoined, h]
  refine if_neg ?_
  simpa [Entry.joinedDue] using hn

section Answer
variable (h : s.rosterEntry i = some e)
include h

theorem rosterEntry_stored (l : LastStatus) : (updEntry i (Entry.stored l) s).rosterEntry i = some (e.stored l) := by
  rw [rosterEntry_updEntry s i (stored_ident l), h]
  rfl

theorem rosterEntry_misses : (updEntry i Entry.misses s).rosterEntry i = some e.misses := by
  rw [rosterEntry_updEntry s i misses_ident, h]
  rfl

theorem rosterEntry_joined (l : LastStatus) :
    (updEntry i (fun x => { x.stored l with state := .active, good := 0 }) s).rosterEntry i =
      some { e with state := .active, miss := 0, good := 0, last := some l } :=
  (rosterEntry_updEntry s i (f := fun x => { x.stored l with state := .active, good := 0 }) (fun _ => rfl)).trans
    (congrArg (Option.map _) h)

theorem rosterEntry_lost : (updEntry i (fun x => { x.misses with state := .lost, good := 0 }) s).rosterEntry i =
    some { e with miss := min 255 (e.miss + 1), state := .lost, good := 0 } :=
  (rosterEntry_updEntry s i (f := fun x => { x.misses with state := .lost, good := 0 }) (fun _ => rfl)).trans
    (congrArg (Option.map _) h)

theorem exchangeGood_active (he : e.state = .active) :
    exchangeGood i l s = esStatus i l.flags.emergency (updEntry i (Entry.stored l) s) := by
  simp only [exchangeGood, h, he, if_true, goodAnswer_eq]

theorem exchangeGood_lost (he : e.state = .lost) : exchangeGood i l s = entryJoined i (updEntry i (Entry.stored l) s) := by
  have not : ¬e.state = .active := by rw [he]; nofun
  simp only [exchangeGood, h, if_neg not, goodAnswer_eq]

theorem exchangeGood_stays (he : e.state = .lost) (hg : e.good + 1 < 3) :
    exchangeGood i l s = updEntry i (Entry.stored l) s := by
  rw [exchangeGood_lost h he]
  refine entryJoined_not (rosterEntry_stored h l) ?_
  rintro ⟨-, joined⟩
  have good : (e.stored l).good = e.good + 1 := if_pos he
  omega

theorem exchangeGood_joins (he : e.state = .lost) (hg : 3 ≤ e.good + 1) : exchangeGood i l s =
    raise (.unitJoined i l.capacity) (esStatus i l.flags.emergency
      (updEntry i (fun x => { x.stored l with state := .active, good := 0 }) s)) := by
  have good : (e.stored l).good = e.good + 1 := if_pos he
  rw [exchangeGood_lost h he, entryJoined_due (rosterEntry_stored h l) he (good ▸ hg) rfl]
  exact congrArg (fun t => raise (.unitJoined i l.capacity) (esStatus i l.flags.emergency t))
    (updEntry_updEntry s i (stored_ident l) _)

/-- An ACTIVE entry is lost at the next miss. -/
def Entry.losing (e : Entry) : Prop := e.state = .active ∧ 3 ≤ min 255 (e.miss + 1)

theorem exchangeMiss_stays (hn : ¬e.losing) : exchangeMiss i s = updEntry i Entry.misses s := by
  rw [exchangeMiss, missed_eq]
  exact entryLost_not (rosterEntry_misses h) hn

theorem exchangeMiss_loses (hl : e.losing) : exchangeMiss i s =
    trigger .unitLost false (raise (.unitLost i ((e.last.map (fun l => l.capacity)).getD 0) s.csl.cycle)
      (updEntry i (fun x => { x.misses with state := .lost, good := 0 }) s)) := by
  obtain ⟨he, hm⟩ := hl
  rw [exchangeMiss, missed_eq, entryLost_due (rosterEntry_misses h) he hm]
  exact congrArg (fun t => trigger .unitLost false (raise _ t)) (updEntry_updEntry s i misses_ident _)

/-- What a good answer leaves: the entry by its state and counts, and without the flag the brakes. -/
theorem exchangeGood_spec (l : LastStatus) : (exchangeGood i l s).rosterEntry i = some
      (if e.state = .active then { e with miss := 0, last := some l }
      else if 3 ≤ e.good + 1 then { e with state := .active, miss := 0, good := 0, last := some l }
      else { e with miss := 0, good := e.good + 1, last := some l }) ∧
    (exchangeGood i l s).flm = s.flm ∧ (exchangeGood i l s).am = s.am ∧ (exchangeGood i l s).nv = s.nv ∧
    (l.flags.emergency = false → (exchangeGood i l s).ble = s.ble ∧ (exchangeGood i l s).tpc = s.tpc) := by
  cases he : e.state with
  | active =>
    have kept := esStatus_block i l.flags.emergency (updEntry i (Entry.stored l) s)
    have good : (e.stored l).good = e.good := if_neg (by rw [he]; nofun)
    have entry : e.stored l = { e with miss := 0, last := some l } := by rw [← good]; rfl
    rw [exchangeGood_active h he]
    refine ⟨?_, kept.flm, esStatus_am .., kept.nv, fun hf => ?_⟩
    · rw [rosterEntry_of_csl (congrArg Csl.roster kept.csl), rosterEntry_stored h, entry, if_pos rfl, he]
    · rw [hf, esStatus_clear]
      exact ⟨rfl, rfl⟩
  | lost =>
    have good : (e.stored l).good = e.good + 1 := if_pos he
    by_cases hg : 3 ≤ e.good + 1
    · have kept := esStatus_block i l.flags.emergency
        (updEntry i (fun x => { x.stored l with state := .active, good := 0 }) s)
      rw [exchangeGood_joins h he hg]
      refine ⟨?_, ?_, ?_, ?_, fun hf => ?_⟩
      · rw [rosterEntry_of_csl (congrArg Csl.roster ((raise_csl ..).trans kept.csl)), rosterEntry_joined h,
          if_neg nofun, if_pos hg]
      · exact (raise_flm ..).trans kept.flm
      · exact (raise_am ..).trans (esStatus_am ..)
      · exact (raise_nv ..).trans kept.nv
      · rw [hf, esStatus_clear, raise_ble, raise_tpc]
        exact ⟨rfl, rfl⟩
    · have entry : e.stored l = { e with miss := 0, good := e.good + 1, last := some l } := by rw [← good]; rfl
      rw [exchangeGood_stays h he (Nat.not_le.mp hg)]
      refine ⟨?_, rfl, rfl, rfl, fun _ => ⟨rfl, rfl⟩⟩
      rw [rosterEntry_stored h, entry, if_neg nofun, if_neg hg, he]

/-- What a miss leaves: the entry by its state and counts, and all of the brakes. -/
theorem exchangeMiss_spec : (exchangeMiss i s).rosterEntry i = some
      (if e.state = .lost then { e with miss := min 255 (e.miss + 1), good := 0 }
      else if 3 ≤ min 255 (e.miss + 1) then { e with miss := min 255 (e.miss + 1), state := .lost, good := 0 }
      else { e with miss := min 255 (e.miss + 1) }) ∧
    sameBraking s (exchangeMiss i s) ∧ (exchangeMiss i s).es = s.es ∧ (exchangeMiss i s).nv = s.nv := by
  by_cases hl : e.losing
  · rw [exchangeMiss_loses h hl]
    obtain ⟨he, hm⟩ := hl
    refine ⟨?_, ⟨?_, ?_, ?_, ?_⟩, ?_, ?_⟩
    · rw [rosterEntry_of_csl (congrArg Csl.roster ((trigger_csl ..).trans (raise_csl ..))),
        rosterEntry_lost h, if_neg (by rw [he]; nofun), if_pos hm]
    · rw [trigger_flm, raise_flm, updEntry_flm]
    · rw [trigger_ble, raise_ble, updEntry_ble]
    · rw [trigger_tpc, raise_tpc, updEntry_tpc]
    · rw [trigger_am, raise_am, updEntry_am]
    · rw [trigger_es, raise_es, updEntry_es]
    · rw [trigger_nv, raise_nv, updEntry_nv]
  · rw [exchangeMiss_stays h hl]
    refine ⟨?_, ⟨rfl, rfl, rfl, rfl⟩, rfl, rfl⟩
    rw [rosterEntry_misses h]
    cases he : e.state with
    | active =>
      have good : e.misses.good = e.good := if_neg (by rw [he]; nofun)
      have entry : e.misses = { e with miss := min 255 (e.miss + 1) } := by rw [← good]; rfl
      rw [entry, if_neg nofun, if_neg fun hm => hl ⟨he, hm⟩, he]
    | lost =>
      have good : e.misses.good = 0 := if_pos he
      have entry : e.misses = { e with miss := min 255 (e.miss + 1), good := 0 } := by rw [← good]; rfl
      rw [entry, if_pos rfl, he]

end Answer

end Entries

/-! ## The window's decision (R106) -/

section Decision
variable {taken : List LineRx} {s : State} {i : Nat} {n : Word16}

theorem goodStatus_iff (own i : Nat) (n : Word16) (taken : List LineRx) (l : LastStatus) :
    goodStatus own i n taken = some l ↔ ∃ rx cap ach b1 b2 fl bl, taken = [rx] ∧ rx.inTime = true ∧
      cleanFrame rx = some ⟨i, own, .status n cap ach b1 b2 fl bl⟩ ∧ l = ⟨cap, ach, b1, b2, fl, bl, 0⟩ := by
  constructor
  · intro h
    unfold goodStatus at h
    split at h
    next rx =>
      split at h
      next src dst c cap ach b1 b2 fl bl hf =>
        split at h
        next hc =>
          obtain ⟨ht, rfl, rfl, rfl⟩ := hc
          exact ⟨rx, cap, ach, b1, b2, fl, bl, rfl, ht, hf, (Option.some.inj h).symm⟩
        next => cases h
      next => cases h
    next => cases h
  · rintro ⟨rx, cap, ach, b1, b2, fl, bl, rfl, ht, hf, rfl⟩
    simp only [goodStatus, hf, ht, and_self, if_true]
    rfl

theorem closeWindow_free (h : s.foreignTaken taken = none) (f : State → State) :
    closeWindow taken f s = lineNext (f (lineIdle s)) := by
  simp only [closeWindow, h]

theorem exchangeDecision_good {l : LastStatus} (hw : s.csl.line = .window (.exchange i n)) (hf : s.foreignTaken taken = none)
    (hg : goodStatus s.ownIdentity i n taken = some l) :
    exchangeDecision taken s = lineNext (exchangeGood i l (lineIdle s)) := by
  have good : goodStatus (lineIdle s).ownIdentity i n taken = some l := hg
  simp only [exchangeDecision, hw, closeWindow_free hf, good]

theorem exchangeDecision_miss (hw : s.csl.line = .window (.exchange i n)) (hf : s.foreignTaken taken = none)
    (hg : goodStatus s.ownIdentity i n taken = none) :
    exchangeDecision taken s = lineNext (exchangeMiss i (lineIdle s)) := by
  have miss : goodStatus (lineIdle s).ownIdentity i n taken = none := hg
  simp only [exchangeDecision, hw, closeWindow_free hf, miss]

end Decision

/-! ## The event rows at a window (log 1) -/

section Windows
variable {taken : List LineRx} {i : Nat} {s : State}

theorem entryGoes_iff {e : Entry} (h : s.rosterEntry i = some e) (x y : EntryState) (t : State) :
    entryGoes i x y s t = true ↔ e.state = x ∧ ∃ f, t.rosterEntry i = some f ∧ f.state = y := by
  simp only [entryGoes, h, Bool.and_eq_true, Option.any_some, beq_iff_eq, Option.any_eq_true]

/-- A row that is the decision of the window where its event falls, and else nothing. -/
theorem window_row {c : Instr} {occurs : State → State → Bool} {decide own : State → State} {p : Prop}
    (hp : s.powered = true) (hc : exec c s = act (windowEvent occurs decide own true) s) (h : occurs s (decide s) = true ↔ p) :
    (p → effect c s (decide s)) ∧ (¬p → effect c s s) :=
  ⟨fun hh => effect_of_act_eq hc hp (if_pos (h.mpr hh)), fun hh => effect_of_act_eq hc hp (if_neg (h.not.mpr hh))⟩

end Windows

/-- Settles O47. -/
theorem exchangeDecided : Obligations.ExchangeDecided := by
  refine ⟨goodStatus_iff, fun i e s hp h => ⟨fun n taken hw hf => ?_, fun he hm => effect_of_act_eq rfl hp (entryLost_due h he hm),
    fun l he hg hl => effect_of_act_eq rfl hp (entryJoined_due h he hg hl), fun taken => ?_⟩⟩
  · intro decides put
    have held : (lineIdle s).rosterEntry i = some e := h
    have good {l : LastStatus} {t : State} (hg : goodStatus s.ownIdentity i n taken = some l)
        (ht : exchangeGood i l (lineIdle s) = t) : decides t :=
      effect_of_act_eq rfl hp ((exchangeDecision_good hw hf hg).trans (congrArg lineNext ht))
    have miss {t : State} (hg : goodStatus s.ownIdentity i n taken = none)
        (ht : exchangeMiss i (lineIdle s) = t) : decides t :=
      effect_of_act_eq rfl hp ((exchangeDecision_miss hw hf hg).trans (congrArg lineNext ht))
    refine ⟨fun l hg => ⟨fun he => good hg (exchangeGood_active held he), fun he hl => good hg (exchangeGood_stays held he hl),
      fun he hl => good hg (exchangeGood_joins held he hl)⟩,
      fun hg => ⟨fun hn => miss hg (exchangeMiss_stays held hn), fun hl => miss hg (exchangeMiss_loses held hl)⟩,
      fun l hg => ⟨exchangeDecision taken s, effect_of_act rfl hp, ?_⟩,
      fun hg => ⟨exchangeDecision taken s, effect_of_act rfl hp, ?_⟩⟩
    · obtain ⟨entry, flm, am, nv, brakes⟩ := exchangeGood_spec held l
      obtain ⟨_, _, _, _, form⟩ := lineNext_form (exchangeGood i l (lineIdle s))
      have roster := lineNext_roster (exchangeGood i l (lineIdle s))
      rw [exchangeDecision_good hw hf hg]
      refine ⟨(rosterEntry_of_csl roster i).trans entry, ?_⟩
      rw [form]
      exact ⟨flm, am, nv, brakes⟩
    · obtain ⟨entry, brakes, es, nv⟩ := exchangeMiss_spec held
      obtain ⟨_, _, _, _, form⟩ := lineNext_form (exchangeMiss i (lineIdle s))
      have roster := lineNext_roster (exchangeMiss i (lineIdle s))
      rw [exchangeDecision_miss hw hf hg]
      refine ⟨(rosterEntry_of_csl roster i).trans entry, ?_⟩
      rw [form]
      exact ⟨brakes, es, nv⟩
  · intro t goes
    obtain ⟨lost, notLost⟩ := window_row (c := .unitLost i (some taken)) hp rfl (entryGoes_iff h .active .lost t)
    obtain ⟨joined, notJoined⟩ := window_row (c := .unitJoined i (some taken)) hp rfl (entryGoes_iff h .lost .active t)
    refine ⟨fun j n hw => ?_, fun l k hw => ?_, fun j hw => ?_, lost, notLost, joined, notJoined⟩
    all_goals simp only [t, windowDecision, hw]

end Sys2Proof.Machine

/-! The decisions of a roll call (R120 to R125): the outcome of a ROLL window, the ranges, the enrolment, the exclusion, the end. -/
namespace Sys2Proof.Machine

/-! ## The outcomes (R122, R123) -/

section Outcomes
variable (own l h : Nat) (taken : List LineRx)

theorem rollOutcome_one (rx : LineRx) (i : Nat) : rollOutcome own l h [rx] = .clean i ↔ rx.inTime = true ∧
    cleanFrame rx = some ⟨i, own, .rollAnswer i⟩ ∧ l ≤ i ∧ i ≤ h := by
  constructor
  · intro ho
    unfold rollOutcome at ho
    dsimp only at ho
    split at ho
    next src dst j hf =>
      split at ho
      next hc =>
        obtain ⟨ht, rfl, rfl, hl, hh⟩ := hc
        cases ho
        exact ⟨ht, hf, hl, hh⟩
      next => cases ho
    next => cases ho
  · rintro ⟨ht, hf, hl, hh⟩
    simp only [rollOutcome, hf, ht, hl, hh, and_self, if_true]

theorem rollOutcome_one_ne (rx : LineRx) : rollOutcome own l h [rx] ≠ .empty := by
  unfold rollOutcome
  dsimp only
  split
  · split <;> nofun
  · nofun

theorem rollOutcome_empty : rollOutcome own l h taken = .empty ↔ taken = [] := by
  match taken with
  | [] => exact ⟨fun _ => rfl, fun _ => rfl⟩
  | [rx] => exact ⟨fun ho => (rollOutcome_one_ne own l _ rx ho).elim, nofun⟩
  | _ :: _ :: _ => exact ⟨nofun, nofun⟩

theorem rollOutcome_clean (i : Nat) : rollOutcome own l h taken = .clean i ↔ ∃ rx, taken = [rx] ∧ rx.inTime = true ∧
    cleanFrame rx = some ⟨i, own, .rollAnswer i⟩ ∧ l ≤ i ∧ i ≤ h := by
  match taken with
  | [] => exact ⟨nofun, fun ⟨_, h, _⟩ => nomatch h⟩
  | [rx] =>
    rw [rollOutcome_one]
    exact ⟨fun h => ⟨rx, rfl, h⟩, fun ⟨_, he, h⟩ => by cases he; exact h⟩
  | _ :: _ :: _ => exact ⟨nofun, fun ⟨_, h, _⟩ => nomatch h⟩

theorem enrolAcked_one (ident : Nat) (rx : LineRx) : enrolAcked own ident [rx] = true ↔
    rx.inTime = true ∧ cleanFrame rx = some ⟨ident, own, .enrolAck⟩ := by
  constructor
  · intro ha
    unfold enrolAcked at ha
    dsimp only at ha
    split at ha
    next src dst hf =>
      simp only [Bool.and_eq_true, beq_iff_eq] at ha
      obtain ⟨⟨ht, rfl⟩, rfl⟩ := ha
      exact ⟨ht, hf⟩
    next => cases ha
  · rintro ⟨ht, hf⟩
    simp only [enrolAcked, hf, ht, beq_self_eq_true, Bool.and_self]

theorem enrolAcked_iff (ident : Nat) : enrolAcked own ident taken = true ↔ ∃ rx, taken = [rx] ∧ rx.inTime = true ∧
    cleanFrame rx = some ⟨ident, own, .enrolAck⟩ := by
  match taken with
  | [] => exact ⟨nofun, fun ⟨_, h, _⟩ => nomatch h⟩
  | [rx] =>
    rw [enrolAcked_one]
    exact ⟨fun h => ⟨rx, rfl, h⟩, fun ⟨_, he, h⟩ => by cases he; exact h⟩
  | _ :: _ :: _ => exact ⟨nofun, fun ⟨_, h, _⟩ => nomatch h⟩

end Outcomes

/-! ## The state of a roll call -/

section Roll
variable {s : State} {r : RollCall}

theorem raise_setCsl (b : NoticeBody) (c : Csl) (s : State) : { raise b s with csl := c } = raise b { s with csl := c } := by
  unfold raise
  split <;> rfl

theorem setRoll_self (h : s.csl.roll = some r) : setRoll r s = s := by
  rw [setRoll, ← h]

theorem setRoll_raise (b : NoticeBody) (r : RollCall) (s : State) : setRoll r (raise b s) = raise b (setRoll r s) := by
  rw [setRoll, raise_csl]
  exact raise_setCsl b _ s

theorem rollCheck_none (h : s.csl.roll = none) : rollCheck s = s := by simp only [rollCheck, h]

theorem rollCheck_on (h : s.csl.roll = some r) (hn : ¬(r.stack = [] ∧ r.pendingEnrol = none)) : rollCheck s = s := by
  simp only [rollCheck, h]
  refine if_neg ?_
  rw [Bool.and_eq_true, List.isEmpty_iff, Option.isNone_iff_eq_none]
  exact hn

theorem endRollCall_runs (st : RollStatus) (h : s.csl.roll = some r) : endRollCall st s =
    raise (.rollCallDone st r.found r.failed) { s with csl := { s.csl with roll := none, openings := 0 } } := by
  simp only [endRollCall, h]

theorem rollCheck_ends (h : s.csl.roll = some r) (hs : r.stack = []) (hp : r.pendingEnrol = none) : rollCheck s =
    raise (.rollCallDone .complete r.found r.failed) { s with csl := { s.csl with roll := none, openings := 0 } } := by
  rw [← endRollCall_runs .complete h]
  simp only [rollCheck, h, hs, hp]
  rfl

/-- The parts of a range either side of an identity, above the ranges that stand (R124). -/
def partsOf (r : RollCall) (l h i : Nat) : List (Nat × Nat) :=
  (if l < i then [(l, i - 1)] else []) ++ (if i < h then [(i + 1, h)] else []) ++ r.stack

theorem pushParts_eq (r : RollCall) (l h i : Nat) : pushParts l h i r.stack = partsOf r l h i := by
  unfold pushParts partsOf
  split <;> split <;> rfl

end Roll

/-- The end of a roll call after a notice. -/
theorem raise_endsRoll (b : NoticeBody) (s : State) :
    { raise b s with csl := { (raise b s).csl with roll := none, openings := 0 } } =
      raise b { s with csl := { s.csl with roll := none, openings := 0 } } := by
  rw [raise_csl]
  exact raise_setCsl b _ s

/-! ## The actions on a ROLL window (R122) -/

section Act
variable {s : State} {r : RollCall} {l h i : Nat}

theorem rollAct_split (hlh : l < h) (r : RollCall) (s : State) : rollAct l h .garbled r s =
    setRoll { r with stack := (l, l + (h - l) / 2) :: (l + (h - l) / 2 + 1, h) :: r.stack } s := by
  simp only [rollAct, if_pos hlh]
  rfl

theorem rollAct_duplicate (hlh : h ≤ l) (r : RollCall) (s : State) : rollAct l h .garbled r s = raise (.duplicateIdentity l) s := by
  simp only [rollAct, if_neg (Nat.not_lt.mpr hlh)]

theorem rollAct_own (r : RollCall) (s : State) : rollAct l h (.clean s.ownIdentity) r s =
    setRoll { r with stack := partsOf r l h s.ownIdentity } s := by
  simp only [rollAct, if_true, pushParts_eq]

theorem rollAct_other (hi : i ≠ s.ownIdentity) (h' : s.rosterEntry i ≠ none ∨ s.csl.roster.length < 5) :
    rollAct l h (.clean i) r s = setRoll { r with pendingEnrol := some ⟨i, l, h, 0⟩ } s := by
  have room : ¬((s.rosterEntry i).isNone && decide (Config.rosterMax ≤ s.csl.roster.length)) = true := by
    rw [Bool.and_eq_true, Option.isNone_iff_eq_none, decide_eq_true_eq]
    rintro ⟨none, full⟩
    exact h'.elim (fun h => h none) (Nat.not_lt.mpr full)
  simp only [rollAct, if_neg hi, if_neg room]

theorem rollAct_full (hi : i ≠ s.ownIdentity) (hn : s.rosterEntry i = none) (hf : 5 ≤ s.csl.roster.length) :
    rollAct l h (.clean i) r s = endRollCall .rosterFull s := by
  have full : ((s.rosterEntry i).isNone && decide (Config.rosterMax ≤ s.csl.roster.length)) = true := by
    rw [hn, decide_eq_true (show Config.rosterMax ≤ _ from hf)]
    rfl
  simp only [rollAct, if_neg hi, if_pos full]

theorem rollDecision_acts {taken : List LineRx} (hw : s.csl.line = .window (.roll l h)) (hr : s.csl.roll = some r)
    (hf : s.foreignTaken taken = none) : rollDecision taken s =
      lineNext (rollCheck (rollAct l h (rollOutcome s.ownIdentity l h taken) r (lineIdle s))) := by
  simp only [rollDecision, hw, hr, closeWindow_free hf]
  rfl

end Act

/-! ## The enrolment (R123, R124) -/

section Enrol
variable {s : State} {r : RollCall} {p : PendingEnrol} {taken : List LineRx}

theorem enrolDecision_acts {i : Nat} (hw : s.csl.line = .window (.enrol i)) (hr : s.csl.roll = some r)
    (hf : s.foreignTaken taken = none) : enrolDecision taken s =
      lineNext (if enrolAcked s.ownIdentity i taken then rollCheck (enrolSuccess r (lineIdle s))
        else enrolExclude (setRoll r.failedAttempt (lineIdle s))) := by
  simp only [enrolDecision, hw, hr, closeWindow_free hf]
  rfl

/-- The roll call after a successful attempt. -/
def RollCall.enrolled (r : RollCall) (p : PendingEnrol) : RollCall :=
  { r with stack := (p.low, p.high) :: r.stack, pendingEnrol := none, found := r.found + 1 }

theorem enrolSuccess_eq (h : r.pendingEnrol = some p) (s : State) :
    enrolSuccess r s = setRoll (r.enrolled p) (enrolEntry p.ident s) := by
  simp only [enrolSuccess, h]
  rfl

theorem enrolEntry_new {i : Nat} (h : s.rosterEntry i = none) : enrolEntry i s =
    { s with csl := { s.csl with
      enrolSeq := s.csl.enrolSeq + 1
      roster := s.csl.roster ++ [⟨i, .active, 0, 0, s.csl.enrolSeq + 1, none⟩] } } := by
  simp only [enrolEntry, h]
  rfl

theorem enrolEntry_held {i : Nat} {e : Entry} (h : s.rosterEntry i = some e) : enrolEntry i s =
    if e.state = .lost then
      raise (.unitJoined i 0) (updEntry i (fun e => { e with state := .active, miss := 0, good := 0, last := none }) s)
    else updEntry i (fun e => { e with state := .active, miss := 0, good := 0, last := none }) s := by
  simp only [enrolEntry, h]

/-- A successful attempt never ends the roll call. -/
theorem rollCheck_enrolled (h : r.pendingEnrol = some p) (s : State) :
    rollCheck (enrolSuccess r s) = setRoll (r.enrolled p) (enrolEntry p.ident s) := by
  rw [enrolSuccess_eq h]
  exact rollCheck_on (r := r.enrolled p) rfl (by rintro ⟨h, -⟩; cases h)

/-- The roll call after its pending identity is excluded. -/
def RollCall.excluded (r : RollCall) (p : PendingEnrol) : RollCall :=
  { r with stack := partsOf r p.low p.high p.ident, pendingEnrol := none, failed := r.failed + 1 }

theorem exclude_eq (h : r.pendingEnrol = some p) (hp : 3 ≤ p.attempts) : r.exclude = r.excluded p := by
  simp only [RollCall.exclude, h, if_pos hp, pushParts_eq]
  rfl

theorem enrolExclude_due (hr : s.csl.roll = some r) (h : r.pendingEnrol = some p) (hp : 3 ≤ p.attempts) :
    enrolExclude s = rollCheck (setRoll (r.excluded p) s) := by
  have due : r.excludeDue = true := by simp [RollCall.excludeDue, h, hp]
  simp only [enrolExclude, hr, if_pos due, exclude_eq h hp]

theorem enrolExclude_not (hr : s.csl.roll = some r) (h : r.pendingEnrol = some p) (hp : p.attempts < 3) :
    enrolExclude s = s := by
  have due : ¬r.excludeDue = true := by simpa [RollCall.excludeDue, h] using hp
  simp only [enrolExclude, hr, if_neg due]

theorem rollCheck_excluded_on (h : partsOf r p.low p.high p.ident ≠ []) (s : State) :
    rollCheck (setRoll (r.excluded p) s) = setRoll (r.excluded p) s :=
  rollCheck_on (r := r.excluded p) rfl fun ends => h ends.1

theorem rollCheck_excluded_ends (h : partsOf r p.low p.high p.ident = []) (s : State) :
    rollCheck (setRoll (r.excluded p) s) = raise (.rollCallDone .complete r.found (r.failed + 1))
      { s with csl := { s.csl with roll := none, openings := 0 } } :=
  rollCheck_ends (r := r.excluded p) rfl h rfl

theorem failedAttempt_pending (h : r.pendingEnrol = some p) :
    r.failedAttempt = { r with pendingEnrol := some { p with attempts := p.attempts + 1 } } := by
  simp only [RollCall.failedAttempt, h, Option.map_some]

theorem enrolExcluded_iff (hr : s.csl.roll = some r) (t : State) : enrolExcluded s t = true ↔
    (∃ i, s.csl.line = .window (.enrol i)) ∧ (∃ p, r.pendingEnrol = some p ∧ 2 ≤ p.attempts) ∧
      ∀ q, t.csl.roll = some q → q.failed = r.failed + 1 := by
  constructor
  · intro h
    unfold enrolExcluded at h
    split at h
    next i q hw hq =>
      rw [hr] at hq
      cases hq
      simp only [Bool.and_eq_true, Option.any_eq_true, decide_eq_true_eq, Option.all_eq_true, beq_iff_eq] at h
      exact ⟨⟨i, hw⟩, h⟩
    next => cases h
  · rintro ⟨⟨i, hw⟩, h⟩
    simp only [enrolExcluded, hw, hr, Bool.and_eq_true, Option.any_eq_true, decide_eq_true_eq, Option.all_eq_true, beq_iff_eq]
    exact h

end Enrol

/-- Settles O48. -/
theorem rollCallDecided : Obligations.RollCallDecided := by
  refine ⟨fun own l h taken => ⟨rollOutcome_empty own l h taken, rollOutcome_clean own l h taken⟩, fun r s hp hr => ?_⟩
  intro quiet ended parts
  have idle : lineIdle s = quiet (some r) := by
    have self := setRoll_self (s := lineIdle s) hr
    exact self.symm
  refine ⟨fun l h taken hw hf => ?_, fun p taken hw hpend hf => ?_, fun p hpend hatt => ⟨fun hn => ?_, fun he => ?_⟩, fun taken => ?_⟩
  · intro decides
    have acts := rollDecision_acts hw hr hf
    have decided {o : RollOutcome} {t : State} (ho : rollOutcome s.ownIdentity l h taken = o)
        (ht : rollCheck (rollAct l h o r (lineIdle s)) = t) : decides t := by
      rw [ho, ht] at acts
      exact effect_of_act_eq rfl hp acts
    refine ⟨fun ht hs => decided ((rollOutcome_empty ..).mpr ht) ?_, fun ht hs hn => decided ((rollOutcome_empty ..).mpr ht) ?_,
      fun ho hlh => decided ho ?_, fun ho hlh hs => decided ho ?_, fun ho hlh hs hn => decided ho ?_,
      fun ho => ⟨fun hs => decided ho ?_, fun hs hn => decided ho ?_⟩,
      fun i ho hi => ⟨fun hheld => decided ho ?_, fun hn hfull => decided ho ?_⟩⟩
    · exact (rollCheck_on (s := lineIdle s) hr fun e => hs e.1).trans idle
    · exact rollCheck_ends (s := lineIdle s) hr hs hn
    · rw [rollAct_split hlh]
      exact rollCheck_on rfl fun e => nomatch e.1
    · rw [rollAct_duplicate hlh, ← idle]
      exact rollCheck_on (r := r) (by rw [raise_csl]; exact hr) fun e => hs e.1
    · rw [rollAct_duplicate hlh, rollCheck_ends (r := r) (by rw [raise_csl]; exact hr) hs hn]
      exact congrArg (raise _) ((raise_endsRoll ..).trans (raise_endsRoll _ (quiet none)).symm)
    · exact (congrArg rollCheck (rollAct_own r (lineIdle s))).trans (rollCheck_on rfl fun e => hs e.1)
    · exact (congrArg rollCheck (rollAct_own r (lineIdle s))).trans 
        (rollCheck_ends (r := { r with stack := partsOf r l h s.ownIdentity }) rfl hs hn)
    · exact (congrArg rollCheck (rollAct_other (s := lineIdle s) hi hheld)).trans (rollCheck_on rfl fun e => nomatch e.2)
    · rw [rollAct_full (s := lineIdle s) hi hn hfull, endRollCall_runs (s := lineIdle s) _ hr]
      exact rollCheck_none (by rw [raise_csl])
  · intro decides done again
    have acts := enrolDecision_acts hw hr hf
    refine ⟨enrolAcked_iff .., fun ha => ?_, fun ha => ?_⟩
    · have decided {t : State} (ht : setRoll (r.enrolled p) (enrolEntry p.ident (lineIdle s)) = t) : decides t := by
        rw [if_pos ha, rollCheck_enrolled hpend, ht] at acts
        exact effect_of_act_eq rfl hp acts
      refine ⟨fun hn => decided ?_, fun e he => ⟨fun hs => decided ?_, fun hs => decided ?_⟩⟩
      · rw [enrolEntry_new (s := lineIdle s) hn]
        rfl
      · rw [enrolEntry_held (s := lineIdle s) he, if_neg (by rw [hs]; nofun)]
        rfl
      · rw [enrolEntry_held (s := lineIdle s) he, if_pos hs, setRoll_raise]
        rfl
    · have decided {t : State} (ht : enrolExclude (setRoll r.failedAttempt (lineIdle s)) = t) : decides t := by
        rw [ha, if_neg Bool.false_ne_true, ht] at acts
        exact effect_of_act_eq rfl hp acts
      rw [failedAttempt_pending hpend] at decided
      have due (hatt : 3 ≤ p.attempts + 1) := enrolExclude_due (p := { p with attempts := p.attempts + 1 })
        (s := setRoll { r with pendingEnrol := some { p with attempts := p.attempts + 1 } } (lineIdle s)) rfl rfl hatt
      refine ⟨fun hatt => decided ?_, fun hatt hn => decided ?_, fun hatt he => decided ?_⟩
      · exact enrolExclude_not rfl rfl hatt
      · exact (due hatt).trans (rollCheck_excluded_on hn _)
      · exact (due hatt).trans (rollCheck_excluded_ends he _)
  · exact effect_of_act_eq rfl hp ((enrolExclude_due hr hpend hatt).trans (rollCheck_excluded_on hn s))
  · exact effect_of_act_eq rfl hp ((enrolExclude_due hr hpend hatt).trans (rollCheck_excluded_ends he s))
  · intro t excluded
    exact window_row (c := .enrolExclude (some taken)) hp rfl (enrolExcluded_iff hr t)

end Sys2Proof.Machine

/-! CONFLICT (R106, R112, R113): the foreign lead's frame, the entry to CONFLICT and what it leaves. -/
namespace Sys2Proof.Machine

/-! ## The foreign lead's frame -/

section Foreign
variable (s : State)

theorem foreignLead_iff (rx : LineRx) (f : ConsistFrame) : s.foreignLead rx = some f ↔
    cleanFrame rx = some f ∧ f.body.leadOwned = true ∧ f.source ≠ s.ownIdentity := by
  rw [State.foreignLead, Option.filter_eq_some_iff, Bool.and_eq_true, bne_iff_ne]

theorem foreignTaken_cons (rx : LineRx) (rest : List LineRx) : s.foreignTaken (rx :: rest) =
    if rx.inTime = true ∧ s.foreignLead rx ≠ none then s.foreignLead rx else s.foreignTaken rest := by
  rw [State.foreignTaken, List.filter_cons, State.foreignTaken]
  cases rx.inTime with
  | false => rfl
  | true =>
    rw [if_pos rfl, List.findSome?_cons]
    cases s.foreignLead rx <;> rfl

/-- The first foreign lead's frame that was taken whole. -/
theorem foreignTaken_iff (taken : List LineRx) (f : ConsistFrame) : s.foreignTaken taken = some f ↔
    ∃ before rx after, taken = before ++ rx :: after ∧ rx.inTime = true ∧ s.foreignLead rx = some f ∧
      ∀ b ∈ before, b.inTime = true → s.foreignLead b = none := by
  induction taken with
  | nil => exact ⟨nofun, fun ⟨before, _, _, h, _⟩ => by cases before <;> cases h⟩
  | cons x rest ih =>
    rw [foreignTaken_cons]
    by_cases hx : x.inTime = true ∧ s.foreignLead x ≠ none
    · rw [if_pos hx]
      constructor
      · exact fun h => ⟨[], x, rest, rfl, hx.1, h, nofun⟩
      · rintro ⟨before, rx, after, heq, -, hrx, hb⟩
        cases before with
        | nil => cases heq; exact hrx
        | cons b before => cases heq; exact absurd (hb x List.mem_cons_self hx.1) hx.2
    · rw [if_neg hx, ih]
      have passed (h : x.inTime = true) : s.foreignLead x = none := by
        by_contra hn
        exact hx ⟨h, hn⟩
      constructor
      · rintro ⟨before, rx, after, rfl, ht, hrx, hb⟩
        exact ⟨x :: before, rx, after, rfl, ht, hrx, List.forall_mem_cons.mpr ⟨passed, hb⟩⟩
      · rintro ⟨before, rx, after, heq, ht, hrx, hb⟩
        cases before with
        | nil => cases heq; rw [passed ht] at hrx; cases hrx
        | cons b before => cases heq; exact ⟨before, rx, after, rfl, ht, hrx, fun c hc => hb c (List.mem_cons_of_mem _ hc)⟩

theorem foreignLead_none (rx : LineRx) : s.foreignLead rx = none ↔
    ∀ g, ¬(cleanFrame rx = some g ∧ g.body.leadOwned = true ∧ g.source ≠ s.ownIdentity) := by
  rw [Option.eq_none_iff_forall_ne_some]
  exact forall_congr' fun g => (foreignLead_iff s rx g).not

end Foreign

/-! ## What the decisions of the consist line leave -/

/-- The base, the blocks, and of the consist line the role, CONFLICT, the line and the cycle number are as before. -/
structure LeadKeeps (s t : State) : Prop where
  base : sameBase s t
  brakes : sameBraking s t
  es : t.es = s.es
  role : t.csl.role = s.csl.role
  conflict : t.csl.conflict = s.csl.conflict
  line : t.csl.line = s.csl.line
  cycle : t.csl.cycle = s.csl.cycle

section Keeps
variable {s t u : State}

theorem LeadKeeps.refl (s : State) : LeadKeeps s s := ⟨⟨rfl, rfl, rfl, rfl, rfl⟩, ⟨rfl, rfl, rfl, rfl⟩, rfl, rfl, rfl, rfl, rfl⟩

theorem LeadKeeps.trans (h : LeadKeeps s t) (k : LeadKeeps t u) : LeadKeeps s u := by
  obtain ⟨flm, ble, tpc, am⟩ := h.brakes
  obtain ⟨kflm, kble, ktpc, kam⟩ := k.brakes
  exact ⟨h.base.trans k.base, ⟨kflm.trans flm, kble.trans ble, ktpc.trans tpc, kam.trans am⟩, k.es.trans h.es,
    k.role.trans h.role, k.conflict.trans h.conflict, k.line.trans h.line, k.cycle.trans h.cycle⟩

theorem LeadKeeps.of_aside (h : Aside s t) (hb : sameBraking s t) (he : t.es = s.es) : LeadKeeps s t :=
  ⟨h.base, hb, he, by rw [h.csl], by rw [h.csl], by rw [h.csl], by rw [h.csl]⟩

theorem LeadKeeps.raise (h : LeadKeeps s t) (b : NoticeBody) : LeadKeeps s (raise b t) :=
  h.trans (.of_aside ((Aside.refl t).raise b) ⟨raise_flm .., raise_ble .., raise_tpc .., raise_am ..⟩ (raise_es ..))

theorem LeadKeeps.trigger (h : LeadKeeps s t) (src : Source) (again : Bool) : LeadKeeps s (trigger src again t) :=
  h.trans (.of_aside ((Aside.refl t).trigger src again) ⟨trigger_flm .., trigger_ble .., trigger_tpc .., trigger_am ..⟩
    (trigger_es ..))

theorem updEntry_lead (i : Nat) (f : Entry → Entry) (s : State) : LeadKeeps s (updEntry i f s) :=
  ⟨⟨rfl, rfl, rfl, rfl, rfl⟩, ⟨rfl, rfl, rfl, rfl⟩, rfl, rfl, rfl, rfl, rfl⟩

theorem exchangeMiss_lead (i : Nat) (s : State) : LeadKeeps s (exchangeMiss i s) := by
  have counted := updEntry_lead i Entry.missed s
  unfold exchangeMiss entryLost
  split
  · exact counted
  · split
    · exact ((counted.trans (updEntry_lead i _ _)).raise _).trigger _ _
    · exact counted

/-- An update of the roll call and its openings. -/
theorem LeadKeeps.roll (s : State) (roll : Option RollCall) (openings : Nat) :
    LeadKeeps s { s with csl := { s.csl with roll := roll, openings := openings } } :=
  ⟨⟨rfl, rfl, rfl, rfl, rfl⟩, ⟨rfl, rfl, rfl, rfl⟩, rfl, rfl, rfl, rfl, rfl⟩

theorem endRollCall_lead (st : RollStatus) (s : State) : LeadKeeps s (endRollCall st s) := by
  unfold endRollCall
  split
  · exact .refl s
  · exact (LeadKeeps.roll s _ _).raise _

theorem endRollCall_roll (st : RollStatus) (s : State) : (endRollCall st s).csl.roll = none := by
  unfold endRollCall
  split
  next h => exact h
  next => rw [raise_csl]

end Keeps

/-! ## The entry (R112) -/

section Entry
variable {s : State} {f : ConsistFrame}

/-- The lead in CONFLICT with its shares withdrawn and its line free, before its open window is decided. -/
def State.conflictQuiet (s : State) : State :=
  { s with csl := { s.csl with conflict := true, todo := [], openings := 0, line := .idle }
           ble := { s.ble with offered := none } }

/-- The open window decided as a miss. -/
def State.conflictMissed (s : State) : State :=
  match s.csl.line with
  | .window w => missWindow w s.conflictQuiet
  | .idle => s.conflictQuiet
  | .sending _ _ => s.conflictQuiet

theorem missWindow_lead (w : Window) (s : State) : LeadKeeps s (missWindow w s) := by
  cases w with
  | exchange i n => exact exchangeMiss_lead i s
  | roll l h => exact .refl s
  | enrol i =>
    unfold missWindow
    dsimp only
    split
    · exact .refl s
    · exact .roll s _ s.csl.openings

theorem missWindow_enrol (i : Nat) (s : State) : missWindow (.enrol i) s =
    { s with csl := { s.csl with roll := s.csl.roll.map (fun r => r.failedAttempt.exclude) } } := by
  cases hr : s.csl.roll with
  | none =>
    simp only [missWindow, hr, Option.map_none]
    rw [← hr]
  | some r => simp only [missWindow, hr, Option.map_some, setRoll]

theorem conflictMissed_lead (s : State) : LeadKeeps s.conflictQuiet s.conflictMissed := by
  unfold State.conflictMissed
  split
  · exact missWindow_lead _ _
  · exact .refl _
  · exact .refl _

/-- The entry to CONFLICT of a lead that is not sending. -/
theorem conflictEntry_eq (hd : s.dir = false) : conflictEntry f s =
    raise (.leadConflict f.source f.body.kind s.csl.cycle) (endRollCall .complete s.conflictMissed) := by
  have missed : missOpen { s with csl := { s.csl with conflict := true, todo := [], openings := 0 }
                                  ble := { s.ble with offered := none } } = s.conflictMissed := by
    cases hl : s.csl.line with
    | idle =>
      simp only [missOpen, State.conflictMissed, State.conflictQuiet, hl]
    | sending g w =>
      rw [State.dir, hl] at hd
      cases hd
    | window w =>
      simp only [missOpen, State.conflictMissed, hl]
      rfl
  have kept := (conflictMissed_lead s).trans (endRollCall_lead .complete s.conflictMissed)
  unfold conflictEntry
  dsimp only
  rw [missed]
  generalize endRollCall .complete s.conflictMissed = t at *
  have line : t.csl.line = .idle := kept.line
  have cycle : t.csl.cycle = s.csl.cycle := kept.cycle
  have idle : { t with csl := { t.csl with line := t.csl.line.abandonWindow } } = t := by
    rw [line]
    exact congrArg (fun l => { t with csl := { t.csl with line := l } }) line.symm
  exact (congrArg (raise _) idle).trans (by rw [cycle])

end Entry

/-- Settles O49. -/
theorem conflictEntered : Obligations.ConflictEntered := by
  unfold Obligations.ConflictEntered
  intro entered foreign
  have entry (f : ConsistFrame) {s : State} (hd : s.dir = false) : conflictEntry f s = entered f s := by
    rw [conflictEntry_eq hd]
    dsimp only [entered]
    cases hl : s.csl.line with
    | idle =>
      simp only [State.conflictMissed, hl]
      rfl
    | sending g w =>
      rw [State.dir, hl] at hd
      cases hd
    | window w =>
      cases w with
      | exchange i n =>
        simp only [State.conflictMissed, hl]
        rfl
      | roll l h =>
        simp only [State.conflictMissed, hl]
        rfl
      | enrol i =>
        simp only [State.conflictMissed, hl, missWindow_enrol]
        rfl
  refine ⟨fun rx f s hp hr hc hd hf => ?_, fun taken s hp => ⟨fun f => ?_, fun f ht => ⟨fun i n hw => ?_, fun l h hw hr => ?_,
    fun i hw hr => ?_⟩⟩⟩
  · have found := (foreignLead_iff s rx f).mpr hf
    have free : (s.leading && !s.dir) = true := by rw [(leading_iff s).mpr ⟨hr, hc⟩, hd]; rfl
    have run : leadConflict rx s = conflictEntry f s := by simp only [leadConflict, if_pos free, found]
    refine ⟨effect_of_act_eq rfl hp (run.trans (entry f hd)), ⟨conflictEntry f s, effect_of_act_eq rfl hp run, ?_⟩,
      fun hl hn => effect_of_act_eq rfl hp (run.trans ?_)⟩
    · have kept := (conflictMissed_lead s).trans (endRollCall_lead .complete s.conflictMissed)
      have none := endRollCall_roll .complete s.conflictMissed
      rw [conflictEntry_eq hd]
      obtain ⟨base, ⟨flm, ble, tpc, am⟩, es, role, conflict, line, cycle⟩ := kept.raise (.leadConflict f.source f.body.kind s.csl.cycle)
      refine ⟨conflict, role.trans hr, by rw [ble]; rfl, by rw [raise_csl]; exact none, line, cycle, base, flm, tpc, am, es,
        by rw [ble]; rfl⟩
    · rw [conflictEntry_eq hd]
      simp only [State.conflictMissed, hl, endRollCall, State.conflictQuiet, hn]
  · rw [foreignTaken_iff]
    simp only [foreignLead_iff, foreignLead_none]
    exact Iff.rfl
  · refine effect_of_act_eq rfl hp (Eq.trans ?_ (entry f (by rw [State.dir, hw])))
    simp only [exchangeDecision, hw, closeWindow, ht]
  · obtain ⟨r, hr⟩ := Option.ne_none_iff_exists'.mp hr
    refine effect_of_act_eq rfl hp (Eq.trans ?_ (entry f (by rw [State.dir, hw])))
    simp only [rollDecision, hw, hr, closeWindow, ht]
  · obtain ⟨r, hr⟩ := Option.ne_none_iff_exists'.mp hr
    refine effect_of_act_eq rfl hp (Eq.trans ?_ (entry f (by rw [State.dir, hw])))
    simp only [enrolDecision, hw, hr, closeWindow, ht]

end Sys2Proof.Machine

/-! What a trail takes (R86, R109 to R111, R126 to R128). -/
namespace Sys2Proof.Machine

/-! ## An accepted SHARE (R109, R110) -/

section Share
variable (cycle : Word16) (i : FollowInputs) (e : Bool) (s : State)

/-- The state with a SHARE taken, before the cause that its flag may bring. -/
def State.shareTaken : State :=
  let u : State := if s.csl.follow = some .inLocal then raise (.leadResumed s.csl.leadId cycle) s else s
  { u with
    csl := { s.csl with follow := some .following, silence := some 0, shareCycle := cycle }
    ble := { s.ble with follow := some i }
    es := { s.es with shareFlag := some e, consist := e } }

/-- The flag of a SHARE brings the cause CONSIST (R86). -/
def State.shareArises : Prop := e = true ∧ s.es.consist = false

/-- The state with a SHARE taken and its flag handed to the ES. -/
def State.shareHanded : State :=
  if e && !s.es.consist then emergencyCause .consist (s.shareTaken cycle i e) else s.shareTaken cycle i e

theorem resumed_frame : (resumed cycle s).csl = s.csl ∧ (resumed cycle s).ble = s.ble ∧ (resumed cycle s).es = s.es := by
  unfold resumed
  split
  · exact ⟨raise_csl .., raise_ble .., raise_es ..⟩
  · exact ⟨rfl, rfl, rfl⟩

theorem acceptShare_eq : acceptShare cycle i e s =
    sendFrame (s.shareHanded cycle i e).statusFrame none (s.shareHanded cycle i e) := by
  obtain ⟨csl, ble, es⟩ := resumed_frame cycle s
  have handed : esShare e { resumed cycle s with
      csl := { (resumed cycle s).csl with follow := some .following, silence := some 0, shareCycle := cycle }
      ble := { (resumed cycle s).ble with follow := some i } } = s.shareHanded cycle i e := by
    simp only [esShare, csl, ble, es]
    rfl
  unfold acceptShare
  dsimp only
  rw [handed]

theorem shareHanded_quiet (h : ¬s.shareArises e) : s.shareHanded cycle i e = s.shareTaken cycle i e := by
  refine if_neg ?_
  simpa [State.shareArises] using h

theorem shareHanded_clear (h : s.shareArises e) (hl : s.es.latch = false) :
    s.shareHanded cycle i e = emergencyEnter .consist (s.shareTaken cycle i e) := by
  have arises : (e && !s.es.consist) = true := by simpa [State.shareArises] using h
  exact (if_pos arises).trans (emergencyCause_clear (s.shareTaken cycle i e) _ hl)

theorem shareHanded_set (h : s.shareArises e) (hl : s.es.latch = true) :
    s.shareHanded cycle i e = trigger .emergency true (s.shareTaken cycle i e) := by
  have arises : (e && !s.es.consist) = true := by simpa [State.shareArises] using h
  exact (if_pos arises).trans (emergencyCause_set (s.shareTaken cycle i e) _ hl)

end Share

/-! ### What the ES leaves of what the STATUS shows -/

/-- What the STATUS shows and the SHARE has written is as before. -/
structure ShareKeeps (s t : State) : Prop where
  rom : t.rom = s.rom
  working : t.clp.working = s.clp.working
  csl : t.csl = s.csl
  flm : t.flm = s.flm
  am : t.am = s.am
  nv : t.nv = s.nv
  handover : t.ble.handover = s.ble.handover
  follow : t.ble.follow = s.ble.follow
  shareFlag : t.es.shareFlag = s.es.shareFlag
  consist : t.es.consist = s.es.consist

section ShareKept
variable (s : State)

theorem ShareKeeps.trigger (src : Source) (again : Bool) : ShareKeeps s (trigger src again s) where
  rom := trigger_rom ..
  working := trigger_working ..
  csl := trigger_csl ..
  flm := trigger_flm ..
  am := trigger_am ..
  nv := trigger_nv ..
  handover := congrArg Ble.handover (trigger_ble ..)
  follow := congrArg Ble.follow (trigger_ble ..)
  shareFlag := congrArg Es.shareFlag (trigger_es ..)
  consist := congrArg Es.consist (trigger_es ..)

theorem emergencyEnter_share (cause : EntryCause) : ShareKeeps s (emergencyEnter cause s) := by
  have block := emergencyEnter_block s cause
  have ble : (emergencyEnter cause s).ble = if s.clp.working.emergDynamic = .drop then dropMaster s.ble else s.ble := by
    rw [emergencyEnter, trigger_ble, raise_ble]
  refine ⟨block.base.2.1, ?_, block.csl, block.flm, ?_, block.nv, ?_, ?_, ?_, ?_⟩
  · rw [emergencyEnter, trigger_working, raise_working]
  · rw [emergencyEnter, trigger_am, raise_am]
  · rw [ble]
    split <;> rfl
  · rw [ble]
    split <;> rfl
  · rw [emergencyEnter_es]
  · rw [emergencyEnter_es]

theorem shareHanded_keeps (cycle : Word16) (i : FollowInputs) (e : Bool) :
    ShareKeeps (s.shareTaken cycle i e) (s.shareHanded cycle i e) := by
  by_cases h : s.shareArises e
  · cases hl : s.es.latch with
    | false => rw [shareHanded_clear cycle i e s h hl]; exact emergencyEnter_share _ _
    | true => rw [shareHanded_set cycle i e s h hl]; exact .trigger _ _ _
  · rw [shareHanded_quiet cycle i e s h]
    exact ⟨rfl, rfl, rfl, rfl, rfl, rfl, rfl, rfl, rfl, rfl⟩

/-- The base and the blocks that a SHARE taken leaves. -/
theorem shareTaken_frame (cycle : Word16) (i : FollowInputs) (e : Bool) : (s.shareTaken cycle i e).rom = s.rom ∧
    (s.shareTaken cycle i e).clp.working = s.clp.working ∧ (s.shareTaken cycle i e).flm = s.flm ∧
    (s.shareTaken cycle i e).am = s.am ∧ (s.shareTaken cycle i e).nv = s.nv ∧ (s.shareTaken cycle i e).tpc = s.tpc := by
  unfold State.shareTaken
  dsimp only
  split
  · exact ⟨raise_rom .., raise_working .., raise_flm .., raise_am .., raise_nv .., raise_tpc ..⟩
  · exact ⟨rfl, rfl, rfl, rfl, rfl, rfl⟩

end ShareKept

/-! ## The frames of a trail -/

section Receives
variable {s : State} {rx : LineRx} {f : ConsistFrame}

theorem trailTakes_eq (hr : s.csl.role = .trail) (hd : s.dir = false) (h : cleanFrame rx = some f) : s.trailTakes rx = some f :=
  (if_pos ⟨hr, hd⟩).trans h

theorem silenceDue_iff (hr : s.csl.role = .trail) (hf : s.csl.follow = some .following) {n : Nat}
    (hs : s.csl.silence = some n) : s.silenceDue = true ↔ 200 < n := by
  simp [State.silenceDue, State.following, hr, hf, hs]

theorem rollReceive_answers {src dst l h : Nat} (ht : s.trailTakes rx = some ⟨src, dst, .roll l h⟩) (he : s.csl.enrolled = false)
    (hl : l ≤ s.ownIdentity) (hh : s.ownIdentity ≤ h) : rollReceive rx s =
      { s with csl := { s.csl with line := .sending ⟨s.ownIdentity, src, .rollAnswer s.ownIdentity⟩ none } } := by
  simp only [rollReceive, ht, he, hl, hh, and_self, if_true, sendFrame]

theorem rollReceive_not {src dst l h : Nat} (ht : s.trailTakes rx = some ⟨src, dst, .roll l h⟩)
    (hn : s.csl.enrolled = true ∨ s.ownIdentity < l ∨ h < s.ownIdentity) : rollReceive rx s = s := by
  simp only [rollReceive, ht]
  refine if_neg ?_
  rintro ⟨he, hl, hh⟩
  obtain hn | hn | hn := hn
  · rw [he] at hn
    cases hn
  · exact Nat.not_le.mpr hn hl
  · exact Nat.not_le.mpr hn hh

theorem enrolReceive_eq {src : Nat} (ht : s.trailTakes rx = some ⟨src, s.ownIdentity, .enrol⟩) : enrolReceive rx s =
    if s.csl.enrolled = false then
      { s with csl := { s.csl with enrolled := true, leadId := src, follow := some .waiting, silence := none,
                                   line := .sending ⟨s.ownIdentity, src, .enrolAck⟩ none } }
    else if s.csl.leadId = src then
      { s with csl := { s.csl with line := .sending ⟨s.ownIdentity, src, .enrolAck⟩ none } }
    else s := by
  simp only [enrolReceive, ht, if_true, sendFrame]

theorem releaseReceive_ends {dst : Nat} (ht : s.trailTakes rx = some ⟨s.csl.leadId, dst, .release⟩)
    (he : s.csl.enrolled = true) (hd : dst = s.ownIdentity ∨ dst = 4294967295) :
    releaseReceive rx s = unenrol (some .waiting) s := by
  simp only [releaseReceive, ht]
  exact if_pos ⟨he, trivial, hd⟩

theorem shareAccept_takes {c : Word16} {d f i : Nat} {e b p m : Bool} (he : s.csl.enrolled = true)
    (ht : s.trailTakes rx = some ⟨s.csl.leadId, s.ownIdentity, .share c d f i e b p m⟩) :
    shareAccept rx s = acceptShare c ⟨d, f, i, b, m⟩ e s := by
  simp only [shareAccept, ht]
  exact if_pos ⟨he, trivial, trivial⟩

end Receives

/-- Settles O50. -/
theorem trailReceives : Obligations.TrailReceives := by
  intro rx s hp hr
  refine ⟨fun c d f i e b p m hd he hf => ?_, fun src dst l h hd hf => ?_, fun src hd hf => ?_, fun dst hd he hf hdst => ?_,
    fun n hf hs => ?_⟩
  · have taken := shareAccept_takes he (trailTakes_eq hr hd hf)
    have accept := acceptShare_eq c ⟨d, f, i, b, m⟩ e s
    obtain ⟨rom, working, flm, am, nv, tpc⟩ := shareTaken_frame s c ⟨d, f, i, b, m⟩ e
    have kept := shareHanded_keeps s c ⟨d, f, i, b, m⟩ e
    refine ⟨acceptShare c ⟨d, f, i, b, m⟩ e s, effect_of_act_eq rfl hp taken, ?_⟩
    rw [accept]
    have own : (s.shareHanded c ⟨d, f, i, b, m⟩ e).ownIdentity = s.ownIdentity := by
      simp only [State.ownIdentity, kept.working, working, kept.rom, rom]
    have chan (n : Nat) : (s.shareHanded c ⟨d, f, i, b, m⟩ e).chan n = s.chan n := by simp only [State.chan, kept.flm, flm]
    have handover : (s.shareHanded c ⟨d, f, i, b, m⟩ e).ble.handover = s.ble.handover := kept.handover
    have csl {α : Type} (F : Csl → α) := congrArg F kept.csl
    have answered {w : State} (hw : s.shareHanded c ⟨d, f, i, b, m⟩ e = w) :
        sendFrame (s.shareHanded c ⟨d, f, i, b, m⟩ e).statusFrame none (s.shareHanded c ⟨d, f, i, b, m⟩ e) =
          { w with csl := { (s.shareTaken c ⟨d, f, i, b, m⟩ e).csl with
            line := .sending (s.shareHanded c ⟨d, f, i, b, m⟩ e).statusFrame none } } := by
      subst hw
      exact csl fun l => { s.shareHanded c ⟨d, f, i, b, m⟩ e with
        csl := { l with line := .sending (s.shareHanded c ⟨d, f, i, b, m⟩ e).statusFrame none } }
    refine ⟨csl Csl.follow, csl Csl.silence, csl Csl.shareCycle, kept.follow, kept.shareFlag, kept.consist, ?_, ?_,
      csl Csl.roster, (csl Csl.enrolled).trans he, csl Csl.leadId, kept.flm.trans flm, kept.am.trans am, kept.nv.trans nv, fun hn => ?_, fun hn => ?_,
      fun ha hl => ?_, fun ha hl => ?_⟩
    · rw [sendFrame_csl]
      simp only [State.statusFrame, own, chan, handover, kept.csl]
      rfl
    · have active (x : Correction) : Correction.active x = decide (x ≠ .idle) := by cases x <;> rfl
      simp only [State.statusFlags, sendFrame_am, sendFrame_es, sendFrame_ble, sendFrame_flm, sendFrame_csl, kept.am, am,
        handover, kept.flm, flm, kept.csl, ← active]
      rfl
    · rw [shareHanded_quiet _ _ _ _ (fun h => by rw [hn] at h; cases h.1)]
      exact ⟨rfl, tpc⟩
    · exact answered (shareHanded_quiet _ _ _ _ hn)
    · exact answered (shareHanded_clear _ _ _ _ ha hl)
    · exact answered (shareHanded_set _ _ _ _ ha hl)
  · have takes := trailTakes_eq hr hd hf
    exact ⟨fun he hl hh => effect_of_act_eq rfl hp (rollReceive_answers takes he hl hh),
      fun hn => effect_of_act_eq rfl hp (rollReceive_not takes hn)⟩
  · have takes := enrolReceive_eq (trailTakes_eq hr hd hf)
    refine ⟨fun he => effect_of_act_eq rfl hp (takes.trans (if_pos he)), fun he hl => effect_of_act_eq rfl hp (takes.trans ?_),
      fun he hl => effect_of_act_eq rfl hp (takes.trans ?_)⟩
    · exact (if_neg (by rw [he]; nofun)).trans (if_pos hl)
    · exact (if_neg (by rw [he]; nofun)).trans (if_neg hl)
  · exact effect_of_act_eq rfl hp (releaseReceive_ends (trailTakes_eq hr hd hf) he hdst)
  · have due := silenceDue_iff hr hf hs
    exact ⟨fun h => effect_of_act_eq rfl hp (if_pos (due.mpr h)),
      fun h => effect_of_act_eq rfl hp (if_neg (due.not.mpr (Nat.not_lt.mpr h)))⟩

end Sys2Proof.Machine

/-! The requests of the consist: SET_ROLE (R101 to R103), ROLL_CALL, ROSTER_READ, ROSTER_RELEASE (R118 to R120). -/
namespace Sys2Proof.Machine

/-! ## Roles (R101 to R103) -/

section Roles
variable (s : State)

theorem mayChange_iff : s.mayChange = true ↔
    s.ble.blend = .released ∨ s.ble.blend = .failsafe ∨ s.am.known = true ∧ s.am.vref < 5000 := by
  simp only [State.mayChange, Bool.or_eq_true, beq_iff_eq, stationary_iff, or_assoc]

theorem esDrop_all : esDrop (fun _ => true) s = { s with es := { s.es with seen := [], consist := false } } := by
  simp [esDrop, Es.consistUpkeep]

/-- A window abandoned, spelt out. -/
theorem abandonWindow_eq (l : LineJob) : l.abandonWindow = match l with
    | .sending f _ => .sending f none
    | _ => .idle := by
  cases l <;> rfl

/-- The state with the lead role left, the roll call ended and the line given. -/
def State.leadLeft (line : LineJob) (u : State) : State :=
  { u with
    csl := { u.csl with
      line := line
      releases := s.csl.releases.filter (fun o => o.leaving) ++
        (if s.csl.conflict then [] else [⟨s.ownIdentity, 4294967295, true⟩])
      roster := [], conflict := false, cycleTicks := 0, todo := [], openings := 0 }
    ble := { s.ble with offered := none }
    es := { s.es with seen := [], consist := false } }

theorem endRollCall_leaves (st : RollStatus) : (endRollCall st s).ownIdentity = s.ownIdentity ∧
    (endRollCall st s).csl.releases = s.csl.releases := by
  unfold endRollCall
  split
  · exact ⟨rfl, rfl⟩
  · refine ⟨?_, by rw [raise_csl]⟩
    simp only [State.ownIdentity, raise_working, raise_rom]

theorem leaveLead_eq : leaveLead s = s.leadLeft s.csl.line.abandonWindow (endRollCall .complete s) := by
  have kept := endRollCall_lead .complete s
  obtain ⟨own, releases⟩ := endRollCall_leaves s .complete
  obtain ⟨-, ble, -, -⟩ := kept.brakes
  unfold leaveLead
  dsimp only
  rw [esDrop_all, own, releases, kept.line, kept.conflict]
  simp only [State.leadLeft, ble, kept.es]
  rfl

/-- The role test refuses. -/
theorem serveSetRole_refused (role : Role) (p : List Byte) (h : s.mayChange = false) :
    serveSetRole role p s = .reply .wrongState [] s := by
  simp only [serveSetRole, h, Bool.false_eq_true, if_false, refuse]

theorem serveSetRole_takes (role : Role) (p : List Byte) (h : s.mayChange = true) :
    serveSetRole role p s = .reply .ok [] (setRole role s) := by
  simp only [serveSetRole, h, if_true, accept]

variable {s}

theorem setRole_same_lead (h : s.csl.role = .lead) :
    setRole .lead s = { s with csl := { s.csl with conflict := false } } := by
  simp only [setRole, h, if_true]

theorem setRole_lead (h : s.csl.role ≠ .lead) : setRole .lead s = enterLead (leaveRole s) := by
  simp only [setRole, if_neg h]

theorem setRole_same_trail (h : s.csl.role = .trail) : setRole .trail s = s := by
  simp only [setRole, h, if_true]

theorem setRole_trail (h : s.csl.role ≠ .trail) : setRole .trail s = enterTrail (leaveRole s) := by
  simp only [setRole, if_neg h]

theorem setRole_same_offline (h : s.csl.role = .offline) : setRole .offline s = s := by
  simp only [setRole, h, if_true]

theorem setRole_offline (h : s.csl.role ≠ .offline) :
    setRole .offline s = { leaveRole s with csl := { (leaveRole s).csl with role := .offline } } := by
  simp only [setRole, if_neg h]

theorem leaveRole_offline (h : s.csl.role = .offline) : leaveRole s = s := by simp only [leaveRole, h]

theorem leaveRole_trail (h : s.csl.role = .trail) : leaveRole s = unenrol none s := by simp only [leaveRole, h]

theorem leaveRole_lead (h : s.csl.role = .lead) : leaveRole s = s.leadLeft s.csl.line.abandonWindow (endRollCall .complete s) := by
  simp only [leaveRole, h, leaveLead_eq]

end Roles

/-- Settles O51. -/
theorem roleRequests : Obligations.RoleRequests := by
  intro tag s off lead trail may leadLeft trailLeft leads trails offs
  have test (f : ReqFrame) : (arrive f s).mayChange = true ↔ may := by
    obtain ⟨q, arrived⟩ := arrive_form f s
    rw [arrived]
    exact mayChange_iff _
  have role (f : ReqFrame) : (arrive f s).csl = s.csl := by
    obtain ⟨q, arrived⟩ := arrive_form f s
    rw [arrived]
  have left (f : ReqFrame) : (arrive f s).leadLeft (arrive f s).csl.line.abandonWindow
      (endRollCall .complete (arrive f s)) = leadLeft (arrive f s) := by
    obtain ⟨q, arrived⟩ := arrive_form f s
    rw [abandonWindow_eq, arrived]
    rfl
  have leftTrail (f : ReqFrame) : unenrol none (arrive f s) = trailLeft (arrive f s) := by
    obtain ⟨q, arrived⟩ := arrive_form f s
    rw [arrived]
    rfl
  have enters : enterLead (arrive lead s) = leads (arrive lead s) := by
    obtain ⟨q, arrived⟩ := arrive_form lead s
    rw [arrived]
    rfl
  have refused (hm : ¬may) (f : ReqFrame) := Bool.eq_false_iff.mpr ((test f).not.mpr hm)
  have takes (hm : may) (f : ReqFrame) := (test f).mpr hm
  refine ⟨fun hm => ⟨fun h => ?_, fun h => ?_, fun h => ?_⟩, fun hm h => ?_, fun hm h => ?_, fun hm h => ?_⟩
  · exact replies_of_serve rfl rfl h rfl (serveSetRole_refused _ _ _ (refused hm off))
  · exact replies_of_serve rfl rfl h rfl (serveSetRole_refused _ _ _ (refused hm lead))
  · exact replies_of_serve rfl rfl h rfl (serveSetRole_refused _ _ _ (refused hm trail))
  · intro r
    have taken {t : State} (ht : setRole .lead r = t) : replies (.setRoleLead tag [1#8]) s lead .ok [] t :=
      ht ▸ replies_of_serve rfl rfl h rfl (serveSetRole_takes r .lead _ (takes hm lead))
    have isRole {x : Role} (hr : s.csl.role = x) : r.csl.role = x := (congrArg Csl.role (role lead)).trans hr
    refine ⟨fun hr => taken ?_, fun hr => taken ?_, fun hr => taken ?_⟩
    · rw [setRole_same_lead (isRole hr), role lead]
    · rw [setRole_lead (by rw [isRole hr]; nofun), leaveRole_offline (isRole hr)]
      exact enters
    · rw [setRole_lead (by rw [isRole hr]; nofun), leaveRole_trail (isRole hr), leftTrail]
      rfl
  · intro r
    have taken {t : State} (ht : setRole .trail r = t) : replies (.setRoleTrail tag [2#8]) s trail .ok [] t :=
      ht ▸ replies_of_serve rfl rfl h rfl (serveSetRole_takes r .trail _ (takes hm trail))
    have isRole {x : Role} (hr : s.csl.role = x) : r.csl.role = x := (congrArg Csl.role (role trail)).trans hr
    refine ⟨fun hr => taken ?_, fun hr => taken ?_, fun hr => taken ?_⟩
    · rw [setRole_same_trail (isRole hr)]
    · rw [setRole_trail (by rw [isRole hr]; nofun), leaveRole_offline (isRole hr)]
      rfl
    · rw [setRole_trail (by rw [isRole hr]; nofun), leaveRole_lead (isRole hr), left]
      rfl
  · intro r
    have taken {t : State} (ht : setRole .offline r = t) : replies (.setRoleOffline tag [0#8]) s off .ok [] t :=
      ht ▸ replies_of_serve rfl rfl h rfl (serveSetRole_takes r .offline _ (takes hm off))
    have isRole {x : Role} (hr : s.csl.role = x) : r.csl.role = x := (congrArg Csl.role (role off)).trans hr
    refine ⟨fun hr => taken ?_, fun hr => taken ?_, fun hr => taken ?_⟩
    · rw [setRole_same_offline (isRole hr)]
    · rw [setRole_offline (by rw [isRole hr]; nofun), leaveRole_trail (isRole hr), leftTrail]
    · rw [setRole_offline (by rw [isRole hr]; nofun), leaveRole_lead (isRole hr), left]

end Sys2Proof.Machine

/-! ROLL_CALL, ROSTER_READ and ROSTER_RELEASE (R118 to R120). -/
namespace Sys2Proof.Machine

/-! ## ROLL_CALL (R120) -/

section RollCall
variable {s : State} (p : List Byte)

theorem serveRollCall_role (h : s.csl.role ≠ .lead) : serveRollCall p s = .reply .wrongRole [] s := by
  simp only [serveRollCall, if_pos h, refuse]

theorem serveRollCall_conflict (h : s.csl.role = .lead) (hc : s.csl.conflict = true) :
    serveRollCall p s = .reply .wrongState [] s := by
  simp only [serveRollCall, h, hc, if_true, refuse]
  rfl

theorem serveRollCall_busy (h : s.csl.role = .lead) (hc : s.csl.conflict = false) (hr : s.csl.roll ≠ none) :
    serveRollCall p s = .reply .busy [] s := by
  have runs := Option.isSome_iff_ne_none.mpr hr
  simp only [serveRollCall, h, hc, runs, if_true, refuse]
  rfl

theorem serveRollCall_begins (h : s.csl.role = .lead) (hc : s.csl.conflict = false) (hr : s.csl.roll = none) :
    serveRollCall p s = .reply .accepted []
      { s with csl := { s.csl with roll := some ⟨[(1, 4294967294)], none, 0, 0⟩ } } := by
  rw [serveRollCall, if_neg (not_not.mpr h), if_neg (Bool.eq_false_iff.mp hc), if_neg (by rw [hr]; nofun)]
  rfl

end RollCall

/-! ## ROSTER_READ (R118, section 12.2) -/

section RosterRead
variable {s : State}

/-- The bytes of an entry, spelt out. -/
theorem Entry.bytes_eq (e : Entry) : e.bytes =
    u32 e.ident ++ u8 (if e.state = .active then 0 else 1) ++ u8 e.miss ++ u8 e.good ++ u32 e.seq ++
      match e.last with
      | none => List.replicate 13 0#8
      | some l => [1#8] ++ u16 l.capacity ++ u16 l.achieved ++ u16 l.bc1 ++ u16 l.bc2 ++ u8 l.flags.byte ++ [l.blend] ++
          u16 l.age := by
  obtain ⟨ident, state, miss, good, seq, last⟩ := e
  cases state <;> cases last <;> rfl

theorem Entry.bytes_length (e : Entry) : e.bytes.length = 24 := by
  obtain ⟨ident, state, miss, good, seq, last⟩ := e
  cases last <;> rfl

/-- The roll-call fields, spelt out. -/
theorem rollBytes_eq (r : Option RollCall) : rollBytes r = match r with
    | none => List.replicate 12 0#8
    | some r => [1#8] ++ u8 r.stack.length ++
        (match r.pendingEnrol with
          | none => List.replicate 6 0#8
          | some p => [1#8] ++ u32 p.ident ++ u8 p.attempts) ++ u16 r.found ++ u16 r.failed := by
  cases r with
  | none => rfl
  | some r =>
    obtain ⟨stack, pend, found, failed⟩ := r
    cases pend <;> rfl

theorem rollBytes_length (r : Option RollCall) : (rollBytes r).length = 12 := by
  cases r with
  | none => rfl
  | some r =>
    obtain ⟨stack, pend, found, failed⟩ := r
    cases pend <;> rfl

theorem rosterContent_offline (h : s.csl.role = .offline) : s.rosterContent = [0#8] := by
  simp only [State.rosterContent, h]
  rfl

theorem rosterContent_trail {f : Follow} (h : s.csl.role = .trail) (hf : s.csl.follow = some f) :
    s.rosterContent = [2#8] ++ flagByte s.csl.enrolled ++ u32 s.csl.leadId ++ u8 f.code := by
  simp only [State.rosterContent, h, hf]
  rfl

theorem rosterContent_lead (h : s.csl.role = .lead) : s.rosterContent =
    [1#8] ++ flagByte s.csl.conflict ++ wordBytes s.csl.cycle ++ u32 s.csl.enrolSeq ++ rollBytes s.csl.roll ++
      u8 s.csl.roster.length ++ s.csl.roster.flatMap Entry.bytes := by
  simp only [State.rosterContent, h]
  rfl

theorem flatMap_bytes_length (l : List Entry) : (l.flatMap Entry.bytes).length = 24 * l.length := by
  induction l with
  | nil => rfl
  | cons e l ih => rw [List.flatMap_cons, List.length_append, ih, e.bytes_length, List.length_cons]; omega

theorem rosterContent_length (h : s.csl.role = .lead) : s.rosterContent.length = 21 + 24 * s.csl.roster.length := by
  have head : ([1#8] ++ flagByte s.csl.conflict ++ wordBytes s.csl.cycle ++ u32 s.csl.enrolSeq).length = 8 := rfl
  have count : (u8 s.csl.roster.length).length = 1 := rfl
  rw [rosterContent_lead h, List.length_append, List.length_append, List.length_append, head, rollBytes_length, count,
    flatMap_bytes_length]

end RosterRead

/-! ## ROSTER_RELEASE (R119) -/

section Release
variable {s : State} {p : List Byte}

theorem precheck_rosterRelease (tag : Byte) (h : p.length = 4) : precheck ⟨0x09#8, tag, p⟩ = none := by
  match p, h with
  | [_, _, _, _], _ => rfl

theorem serveRosterRelease_role (h : s.csl.role ≠ .lead) : serveRosterRelease p s = .reply .wrongRole [] s := by
  simp only [serveRosterRelease, if_pos h, refuse]

theorem serveRosterRelease_conflict (h : s.csl.role = .lead) (hc : s.csl.conflict = true) :
    serveRosterRelease p s = .reply .wrongState [] s := by
  simp only [serveRosterRelease, h, hc, if_true, refuse]
  rfl

theorem serveRosterRelease_busy (h : s.csl.role = .lead) (hc : s.csl.conflict = false) (hr : s.csl.roll ≠ none) :
    serveRosterRelease p s = .reply .busy [] s := by
  have runs := Option.isSome_iff_ne_none.mpr hr
  simp only [serveRosterRelease, h, hc, runs, if_true, refuse]
  rfl

section Free
variable (h : s.csl.role = .lead) (hc : s.csl.conflict = false) (hr : s.csl.roll = none)
include h hc hr

theorem serveRosterRelease_free : serveRosterRelease p s =
    if !s.mayChange then refuse .wrongState s
    else if rd32 p 0 ≠ 4294967295 ∧ (s.rosterEntry (rd32 p 0)).isNone = true then refuse .badValue s
    else accept (esDrop (released (rd32 p 0))
      { s with csl := { s.csl with
        roster := s.csl.roster.filter (fun e => !released (rd32 p 0) e.ident)
        releases := s.csl.releases ++ [⟨s.ownIdentity, rd32 p 0, false⟩] } }) := by
  rw [serveRosterRelease]
  dsimp only
  rw [if_neg (not_not.mpr h), if_neg (Bool.eq_false_iff.mp hc), if_neg (by rw [hr]; nofun)]
  rfl

theorem serveRosterRelease_moving (hm : s.mayChange = false) : serveRosterRelease p s = .reply .wrongState [] s := by
  rw [serveRosterRelease_free h hc hr, hm]
  rfl

theorem serveRosterRelease_unknown (hm : s.mayChange = true) (hn : rd32 p 0 ≠ 4294967295)
    (he : s.rosterEntry (rd32 p 0) = none) : serveRosterRelease p s = .reply .badValue [] s := by
  rw [serveRosterRelease_free h hc hr, hm, if_neg (by decide), if_pos ⟨hn, by rw [he]; rfl⟩]
  rfl

theorem serveRosterRelease_takes (hm : s.mayChange = true)
    (hn : rd32 p 0 = 4294967295 ∨ s.rosterEntry (rd32 p 0) ≠ none) : serveRosterRelease p s =
      .reply .ok [] (esDrop (released (rd32 p 0))
        { s with csl := { s.csl with
          roster := s.csl.roster.filter (fun e => !released (rd32 p 0) e.ident)
          releases := s.csl.releases ++ [⟨s.ownIdentity, rd32 p 0, false⟩] } }) := by
  have named : ¬(rd32 p 0 ≠ 4294967295 ∧ (s.rosterEntry (rd32 p 0)).isNone = true) := by
    rintro ⟨hne, hnone⟩
    exact hn.elim (fun h => hne h) (fun h => h (Option.isNone_iff_eq_none.mp hnone))
  rw [serveRosterRelease_free h hc hr, hm, if_neg (by decide), if_neg named]
  rfl

end Free

end Release

/-- Settles O52. -/
theorem rosterRequests : Obligations.RosterRequests := by
  intro tag p s call read rel
  have arrived (f : ReqFrame) := arrive_form f s
  have csl (f : ReqFrame) : (arrive f s).csl = s.csl := by
    obtain ⟨q, h⟩ := arrived f
    rw [h]
  refine ⟨fun h => ?_, fun h => ?_, ?_, fun h hl => ?_⟩
  · intro answers r
    have answered {st : ReplyStatus} {t : State} (hs : serveRollCall [] r = .reply st [] t) : answers st t :=
      replies_of_serve rfl rfl h rfl hs
    have same : r.csl = s.csl := csl call
    rw [← same]
    exact ⟨fun hr => answered (serveRollCall_role [] hr), fun hr hc => answered (serveRollCall_conflict [] hr hc),
      fun hr hc hn => answered (serveRollCall_busy [] hr hc hn), fun hr hc hn => answered (serveRollCall_begins [] hr hc hn)⟩
  · refine replies_of_serve rfl rfl h rfl ?_
    obtain ⟨q, h⟩ := arrived read
    rw [h]
    rfl
  · intro entry call
    have entries : s.csl.roster.flatMap Entry.bytes = s.csl.roster.flatMap entry :=
      congrArg (fun f => s.csl.roster.flatMap f) (funext Entry.bytes_eq)
    have rolls : rollBytes s.csl.roll = call := rollBytes_eq s.csl.roll
    refine ⟨rosterContent_offline, fun f hr hf => rosterContent_trail hr hf, fun hr => ⟨rosterContent_length hr, ?_⟩⟩
    rw [rosterContent_lead hr, entries, rolls]
  · intro answers r n may free
    have answered {st : ReplyStatus} {t : State} (hs : serveRosterRelease p r = .reply st [] t) : answers st t :=
      replies_of_serve rfl rfl h (precheck_rosterRelease tag hl) hs
    have same : r.csl = s.csl := csl rel
    obtain ⟨q, form⟩ : ∃ q, r = { s with clp := { s.clp with queue := q } } := arrived rel
    have es : r.es = s.es := by rw [form]
    have own : r.ownIdentity = s.ownIdentity := by rw [form]; rfl
    have test : r.mayChange = true ↔ may := by rw [form]; exact mayChange_iff _
    have held (i : Nat) : r.rosterEntry i = s.rosterEntry i := rosterEntry_of_csl (congrArg Csl.roster same) i
    have isFree (hf : free) : r.csl.role = .lead ∧ r.csl.conflict = false ∧ r.csl.roll = none := by rw [same]; exact hf
    refine ⟨fun hr => answered (serveRosterRelease_role (same ▸ hr)),
      fun hr hc => answered (serveRosterRelease_conflict (same ▸ hr) (same ▸ hc)),
      fun hr hc hn => answered (serveRosterRelease_busy (same ▸ hr) (same ▸ hc) (same ▸ hn)), fun hf hm => ?_, fun hf hm hn he => ?_,
      fun hf hm hn => ?_⟩
    · obtain ⟨hr, hc, hn⟩ := isFree hf
      exact answered (serveRosterRelease_moving hr hc hn (Bool.eq_false_iff.mpr (test.not.mpr hm)))
    · obtain ⟨hr, hc, hroll⟩ := isFree hf
      exact answered (serveRosterRelease_unknown hr hc hroll (test.mpr hm) hn ((held _).trans he))
    · obtain ⟨hr, hc, hroll⟩ := isFree hf
      have takes := serveRosterRelease_takes (p := p) hr hc hroll (test.mpr hm) (by rw [held]; exact hn)
      refine ⟨_, answered takes, rfl, ?_, ?_, ?_, ?_⟩
      · rw [← es]
        rfl
      · rw [← same, ← own]
        rfl
      · rw [← es]
        rfl
      · rw [← es]
        rfl

end Sys2Proof.Machine

/-! The control link receiver (R177, R179): what hunting makes of a frame, and the rows of a reception. -/
namespace Sys2Proof.Machine

/-! ## What the characters after a start byte come to -/

section Walk
variable {bs : List Byte} {c : RxChar} {rest : List RxChar}

/-- The bytes after a start byte leave its frame open. -/
def frameOpens (bs : List Byte) : Prop := bs = [] ∨ 2 ≤ rd8 bs 0 ∧ rd8 bs 0 ≤ 250 ∧ bs.length < rd8 bs 0 + 3

theorem walkFrame_opens (h : frameOpens bs) (rest : List RxChar) : walkFrame [] (cleanChars bs ++ rest) = walkFrame bs rest :=
  walkFrame_clean [] bs rest h

theorem walkFrame_gap (h : c.gap = true) : walkFrame bs (c :: rest) = .abandoned (bs.length + 1) := by
  simp only [walkFrame, h, if_true]

theorem walkFrame_stop (hg : c.gap = false) (hs : c.stopOk = false) : walkFrame bs (c :: rest) = .abandoned 1 := by
  simp [walkFrame, hg, hs]

/-- A frame whose bytes are all there is decided by its CRC. -/
theorem walkFrame_full (h2 : 2 ≤ rd8 bs 0) (h250 : rd8 bs 0 ≤ 250) (hl : bs.length = rd8 bs 0 + 3) (rest : List RxChar) :
    walkFrame [] (cleanChars bs ++ rest) = closeFrame bs := by
  obtain ⟨init, last, rfl⟩ : ∃ init last, bs = init ++ [last] := by
    refine ⟨_, _, (List.dropLast_append_getLast (l := bs) ?_).symm⟩
    rintro rfl
    cases hl
  rw [List.length_append, List.length_singleton] at hl
  have first : rd8 (init ++ [last]) 0 = rd8 init 0 := by
    cases init with
    | nil => simp only [List.length_nil] at hl; omega
    | cons b init => rfl
  rw [first] at h2 h250 hl
  have opens : frameOpens init := .inr ⟨h2, h250, by omega⟩
  have chars : cleanChars (init ++ [last]) ++ rest = cleanChars init ++ (⟨last, true, false⟩ :: rest) := by simp [cleanChars]
  have range : ¬(rd8 (init ++ [last]) 0 < 2 ∨ 250 < rd8 (init ++ [last]) 0) := by rw [first]; omega
  have length : (init ++ [last]).length = rd8 (init ++ [last]) 0 + 3 := by
    rw [first, List.length_append, List.length_singleton]
    exact hl
  rw [chars, walkFrame_opens opens]
  simp only [walkFrame, Bool.not_true, Bool.false_eq_true, if_false, if_neg range, if_pos length]

theorem walkFrame_length {b : Byte} (h : b.toNat < 2 ∨ 250 < b.toNat) (rest : List RxChar) :
    walkFrame [] (cleanChars [b] ++ rest) = .abandoned 1 := by
  have range : rd8 ([] ++ [b]) 0 < 2 ∨ 250 < rd8 ([] ++ [b]) 0 := h
  simp only [cleanChars, List.map_cons, List.map_nil, List.cons_append, List.nil_append, walkFrame, Bool.not_true,
    Bool.false_eq_true, if_false] at range ⊢
  exact if_pos range

theorem closeFrame_bad (h : bs.drop (rd8 bs 0 + 1) ≠ wordBytes (crc16 (bs.take (rd8 bs 0 + 1)))) :
    closeFrame bs = .abandoned 1 := if_neg h

end Walk

/-! ## Hunting (R177) -/

section Hunt
variable {bs : List Byte} {c : RxChar} {rest : List RxChar}

/-- Hunting over a start byte and clean characters, where they abandon the frame. -/
theorem hunt_abandoned {k : Nat} (h : walkFrame [] (cleanChars bs ++ rest) = .abandoned k) :
    hunt (cleanChars (0x5A#8 :: bs) ++ rest) = abandonedThen (hunt ((cleanChars bs ++ rest).drop (k - 1))) := by
  have start := hunt_start (cleanChars bs ++ rest)
  rw [h] at start
  exact start

theorem hunt_complete {f : ReqFrame} {n : Nat} (h : walkFrame [] (cleanChars bs ++ rest) = .complete f n) :
    hunt (cleanChars (0x5A#8 :: bs) ++ rest) =
      { hunt ((cleanChars bs ++ rest).drop (n - 1)) with
        frames := f :: (hunt ((cleanChars bs ++ rest).drop (n - 1))).frames } := by
  have start := hunt_start (cleanChars bs ++ rest)
  rw [h] at start
  exact start

/-- A frame left open waits for its next characters. -/
theorem hunt_open (h : frameOpens bs) : hunt (cleanChars (0x5A#8 :: bs)) = ⟨cleanChars (0x5A#8 :: bs), [], 0⟩ := by
  have start := hunt_start (cleanChars bs)
  have walked := walkFrame_opens h []
  rw [List.append_nil] at walked
  rw [walked] at start
  exact start

/-- A character that starts no frame is discarded. -/
theorem hunt_discards (h : c.stopOk = false ∨ c.byte ≠ 0x5A#8) : hunt (c :: rest) = hunt rest := by
  have none : ¬(c.stopOk = true ∧ c.byte = 0x5A#8) := by
    rintro ⟨hs, hb⟩
    exact h.elim (fun h => by rw [hs] at h; cases h) (fun h => h hb)
  exact if_neg none

theorem drop_cleanChars (bs : List Byte) (cs : List RxChar) : (cleanChars bs ++ cs).drop bs.length = cs := by
  have length : (cleanChars bs).length = bs.length := List.length_map ..
  rw [← length, List.drop_left]

end Hunt

/-! ## A whole frame -/

section Whole
variable (kind tag : Byte) (payload : List Byte)

/-- The bytes of a control link frame between the start byte and its CRC. -/
def frameBody : List Byte := u8 (payload.length + 2) ++ [kind, tag] ++ payload

variable {payload} (h : payload.length ≤ 248)
include h

theorem frameBody_length : rd8 (frameBody kind tag payload) 0 = payload.length + 2 := by
  have byte : (BitVec.ofNat 8 (payload.length + 2)).toNat = payload.length + 2 := by
    rw [BitVec.toNat_ofNat]
    omega
  exact byte

/-- The CRC that a frame carries closes it. -/
theorem closeFrame_frame : closeFrame (frameBody kind tag payload ++ wordBytes (crc16 (frameBody kind tag payload))) =
    .complete ⟨kind, tag, payload⟩ (payload.length + 6) := by
  have number : rd8 (frameBody kind tag payload ++ wordBytes (crc16 (frameBody kind tag payload))) 0 = payload.length + 2 :=
    frameBody_length kind tag h
  have length : (frameBody kind tag payload).length = payload.length + 3 := by
    simp [frameBody, u8]
  have inner : (frameBody kind tag payload ++ wordBytes (crc16 (frameBody kind tag payload))).drop 3 =
      payload ++ wordBytes (crc16 (frameBody kind tag payload)) := rfl
  have good : (frameBody kind tag payload ++ wordBytes (crc16 (frameBody kind tag payload))).drop (payload.length + 2 + 1) =
      wordBytes (crc16 ((frameBody kind tag payload ++ wordBytes (crc16 (frameBody kind tag payload))).take
        (payload.length + 2 + 1))) := by
    rw [← length, List.drop_left, List.take_left]
  have data : (payload ++ wordBytes (crc16 (frameBody kind tag payload))).take payload.length = payload := List.take_left
  unfold closeFrame
  dsimp only
  rw [number, if_pos good, inner, Nat.add_sub_cancel, data]
  rfl

/-- The receiver takes a clean frame whole. -/
theorem hunt_frame : hunt (cleanChars (controlFrame kind tag payload)) = ⟨[], [⟨kind, tag, payload⟩], 0⟩ := by
  have number := frameBody_length kind tag h
  have length : (frameBody kind tag payload ++ wordBytes (crc16 (frameBody kind tag payload))).length = payload.length + 2 + 3 := by
    simp [frameBody, u8, wordBytes, u16]
  have first : rd8 (frameBody kind tag payload ++ wordBytes (crc16 (frameBody kind tag payload))) 0 = payload.length + 2 := number
  have walked := walkFrame_full (bs := frameBody kind tag payload ++ wordBytes (crc16 (frameBody kind tag payload)))
    (by omega) (by omega) (by omega) []
  rw [closeFrame_frame kind tag h] at walked
  have taken := hunt_complete walked
  rw [List.append_nil, List.append_nil, show payload.length + 6 - 1 =
    (cleanChars (frameBody kind tag payload ++ wordBytes (crc16 (frameBody kind tag payload)))).length from
      (length.symm.trans (List.length_map ..).symm), List.drop_length] at taken
  exact taken

end Whole

/-! ## The rows -/

section Rows
variable {s : State}

theorem takeReceived_one (hr : s.clp.receiver = []) (f : ReqFrame) : takeReceived ⟨[], [f], 0⟩ s =
    enqueue f { s with clp := { s.clp with badFrames := min 65535 s.clp.badFrames } } := by
  rw [← hr]
  rfl

theorem enqueue_room (f : ReqFrame) (h : s.clp.queue.length < 4) :
    enqueue f s = { s with clp := { s.clp with queue := s.clp.queue ++ [f] } } := if_pos h

theorem enqueue_full (f : ReqFrame) (h : 4 ≤ s.clp.queue.length) :
    enqueue f s = { s with clp := { s.clp with discarded := min 65535 (s.clp.discarded + 1) } } :=
  if_neg (Nat.not_lt.mpr h)

theorem received_idle (hr : s.clp.receiver = []) (cs : List RxChar) : s.received cs = hunt cs := by
  rw [State.received, hr]
  rfl

theorem requestReceived_takes {cs : List RxChar} (hb : s.begun = true) (h : (s.received cs).frames ≠ []) :
    requestReceived cs s = takeReceived (s.received cs) s := if_pos ⟨hb, h⟩

theorem requestReceived_not {cs : List RxChar} (h : (s.received cs).frames = []) : requestReceived cs s = s :=
  if_neg fun ⟨_, hn⟩ => hn h

theorem frameAbandoned_takes {cs : List RxChar} (hb : s.begun = true) (h : 0 < (s.received cs).bad) :
    frameAbandoned cs s = takeReceived (s.received cs) s := if_pos ⟨hb, h⟩

theorem frameAbandoned_not {cs : List RxChar} (h : (s.received cs).bad = 0) : frameAbandoned cs s = s :=
  if_neg fun ⟨_, hn⟩ => Nat.lt_irrefl 0 (h ▸ hn)

end Rows

/-- Settles O53. -/
theorem requestReception : Obligations.RequestReception := by
  refine ⟨fun s hp hb hr => ⟨fun kind tag payload hl => ?_, fun n hn => effect_of_act_eq rfl hp ?_⟩, fun cs s hp hb => ?_,
    fun bs c rest => ?_⟩
  · have received : s.received (cleanChars (controlFrame kind tag payload)) = ⟨[], [⟨kind, tag, payload⟩], 0⟩ :=
      (received_idle hr _).trans (hunt_frame kind tag hl)
    have taken := requestReceived_takes hb (by rw [received]; nofun)
    rw [received, takeReceived_one hr] at taken
    exact ⟨fun hq => effect_of_act_eq rfl hp (taken.trans (enqueue_room _ hq)),
      fun hq => effect_of_act_eq rfl hp (taken.trans (enqueue_full _ hq))⟩
  · have other : n ≠ 0x5A#8 := by
      rintro rfl
      revert hn
      decide
    have abandoned := hunt_abandoned (rest := []) (walkFrame_length hn [])
    rw [List.append_nil, List.append_nil] at abandoned
    have received : s.received (cleanChars [0x5A#8, n]) = ⟨[], [], 1⟩ := by
      rw [received_idle hr, abandoned]
      exact congrArg abandonedThen (hunt_discards (rest := []) (.inr other))
    rw [frameAbandoned_takes hb (by rw [received]; decide), received, ← hr]
    rfl
  · intro r t
    exact ⟨fun h => effect_of_act_eq rfl hp (frameAbandoned_takes hb h), fun h => effect_of_act_eq rfl hp (frameAbandoned_not h),
      fun h => effect_of_act_eq rfl hp (requestReceived_takes hb h), fun h => effect_of_act_eq rfl hp (requestReceived_not h)⟩
  · intro n framed opens
    refine ⟨fun ho hg hs => hunt_abandoned ((walkFrame_opens ho _).trans (walkFrame_stop hg hs)), fun ho hg => ?_, fun hl hn => ?_,
      fun h2 h250 hl hc => hunt_abandoned ((walkFrame_full h2 h250 hl rest).trans (closeFrame_bad hc)), fun ho => ?_, hunt_discards⟩
    · have abandoned := hunt_abandoned ((walkFrame_opens ho _).trans (walkFrame_gap (rest := rest) hg))
      rw [Nat.add_sub_cancel, drop_cleanChars] at abandoned
      exact abandoned
    · obtain ⟨b, rfl⟩ := List.length_eq_one_iff.mp hl
      exact hunt_abandoned (walkFrame_length hn rest)
    · rw [hunt_open ho]
      exact ⟨rfl, rfl, rfl⟩

end Sys2Proof.Machine

/-! The first three tests of a request (R178), and when it is taken (R179). -/
namespace Sys2Proof.Machine

/-! ## Lengths and sub-codes (R178, R197) -/

section Tests
variable (tag : Byte) (p : List Byte)

theorem itemKnown_iff (n : Nat) : itemKnown n = true ↔ 1 ≤ n ∧ n ≤ 29 := decide_eq_true_iff

theorem kindKnown_iff (f : ReqFrame) : kindKnown f = true ↔ 1 ≤ f.kind.toNat ∧ f.kind.toNat ≤ 22 := decide_eq_true_iff

theorem lengthAllowed_read : lengthAllowed ⟨0x03#8, tag, p⟩ =
    if itemKnown (rd8 p 0) then p.length == (if rd8 p 0 = 2 then 2 else 1)
    else decide (1 ≤ p.length ∧ p.length ≤ 2) := rfl

theorem lengthAllowed_write : lengthAllowed ⟨0x04#8, tag, p⟩ =
    if itemKnown (rd8 p 0) then p.length == 1 + itemLength (rd8 p 0) (p.drop 1)
    else decide (2 ≤ p.length ∧ p.length ≤ 65) := rfl

theorem lengthAllowed_read_unknown (h : ¬itemKnown (rd8 p 0) = true) :
    lengthAllowed ⟨0x03#8, tag, p⟩ = true ↔ 1 ≤ p.length ∧ p.length ≤ 2 := by
  rw [lengthAllowed_read, if_neg h, decide_eq_true_iff]

theorem lengthAllowed_write_unknown (h : ¬itemKnown (rd8 p 0) = true) :
    lengthAllowed ⟨0x04#8, tag, p⟩ = true ↔ 2 ≤ p.length ∧ p.length ≤ 65 := by
  rw [lengthAllowed_write, if_neg h, decide_eq_true_iff]

theorem lengthAllowed_read_item (h : itemKnown (rd8 p 0) = true) :
    lengthAllowed ⟨0x03#8, tag, p⟩ = true ↔ p.length = if rd8 p 0 = 2 then 2 else 1 := by
  rw [lengthAllowed_read, if_pos h, beq_iff_eq]

theorem lengthAllowed_write_item (h : itemKnown (rd8 p 0) = true) :
    lengthAllowed ⟨0x04#8, tag, p⟩ = true ↔ p.length = 1 + itemLength (rd8 p 0) (p.drop 1) := by
  rw [lengthAllowed_write, if_pos h, beq_iff_eq]

theorem subcodesDefined_read : subcodesDefined ⟨0x03#8, tag, p⟩ =
    (itemKnown (rd8 p 0) && (rd8 p 0 != 2 || decide (rd8 p 1 ≤ 16))) := rfl

theorem rd8_drop (p : List Byte) (i j : Nat) : rd8 (p.drop i) j = rd8 p (i + j) := by
  simp only [rd8, List.getD_eq_getElem?_getD, List.getElem?_drop]

theorem rd24_drop (p : List Byte) (i : Nat) : rd24 (p.drop i) 0 = rd24 p i := by
  simp only [rd24, rd16, rd8_drop]
  rfl

section Item
variable {n : Nat} (v : List Byte)

theorem itemLength_one (h : n ∈ [5, 15, 17, 20, 28]) : itemLength n v = 1 := by
  fin_cases h <;> rfl

theorem itemLength_two (h : n ∈ [3, 4, 6, 7, 8, 9, 10, 11, 12, 13, 16, 21, 22, 23, 24, 25, 26]) : itemLength n v = 2 := by
  fin_cases h <;> rfl

theorem itemLength_four (h : n ∈ [1, 18, 19, 29]) : itemLength n v = 4 := by
  fin_cases h <;> rfl

end Item

end Tests

/-! ## Taking (R179) -/

section Taking
variable (f : ReqFrame) (st : ReplyStatus) (payload : List Byte) (s : State)

theorem takeable_iff : s.takeable f = true ↔ s.begun = true ∧ s.clp.held = false ∧ s.clp.replySlot = none ∧
    (s.clp.queue = [] ∨ s.clp.queue.head? = some f) := by
  simp only [State.takeable, Bool.and_eq_true, Bool.or_eq_true, Bool.not_eq_true', Option.isNone_iff_eq_none, beq_iff_eq,
    and_assoc]

theorem replyTo_known (h : 1 ≤ f.kind.toNat ∧ f.kind.toNat ≤ 22) :
    replyTo f st payload = ⟨0x80#8 + f.kind, f.tag, st, payload⟩ := by
  have kind : BitVec.ofNat 8 (0x80 + f.kind.toNat) = 0x80#8 + f.kind := by
    apply BitVec.eq_of_toNat_eq
    rw [BitVec.toNat_ofNat, BitVec.toNat_add]
    rfl
  rw [replyTo, if_pos ((kindKnown_iff f).mpr h), kind]

theorem replyTo_unknown (h : f.kind.toNat < 1 ∨ 22 < f.kind.toNat) :
    replyTo f st payload = ⟨0xFF#8, f.tag, st, payload ++ [f.kind]⟩ :=
  if_neg (by rw [kindKnown_iff]; omega)

end Taking

/-! ## The tests in order -/

section Order
variable {f : ReqFrame}

theorem precheck_kind (h : f.kind.toNat < 1 ∨ 22 < f.kind.toNat) : precheck f = some (.unknownKind, u8 1) := by
  have unknown : kindKnown f = false := Bool.eq_false_iff.mpr (by rw [ne_eq, kindKnown_iff]; omega)
  simp only [precheck, unknown, Bool.not_false, if_true]

theorem precheck_length (hk : 1 ≤ f.kind.toNat ∧ f.kind.toNat ≤ 22) (hl : lengthAllowed f = false) :
    precheck f = some (.badLength, []) := by
  have known := (kindKnown_iff f).mpr hk
  simp only [precheck, known, hl, Bool.not_true, Bool.not_false, Bool.false_eq_true, if_true, if_false]

theorem precheck_subcode (hk : 1 ≤ f.kind.toNat ∧ f.kind.toNat ≤ 22) (hl : lengthAllowed f = true)
    (hs : subcodesDefined f = false) : precheck f = some (.unknownKind, u8 2) := by
  have known := (kindKnown_iff f).mpr hk
  simp only [precheck, known, hl, hs, Bool.not_true, Bool.not_false, Bool.false_eq_true, if_true, if_false]

theorem rowOf_unknown (h : f.kind.toNat < 1 ∨ 22 < f.kind.toNat) : rowOf f = .unknownKind := by
  unfold rowOf
  split
  case h_23 => rfl
  all_goals omega

/-- A request row takes the request of its own row. -/
theorem exec_request {c : Instr} {row : ReqRow} (h : requestOf c = some (row, f)) :
    ∃ serve, ∀ s, exec c s = act (takeRequest row f serve) s := by
  cases c <;> cases h <;> exact ⟨_, fun _ => rfl⟩

end Order

/-- Settles O54. -/
theorem requestFirstTests : Obligations.RequestFirstTests := by
  refine ⟨fun tag p => ?_, fun f st payload s => ⟨takeable_iff f s, rfl, rfl, fun h1 h22 => replyTo_known f st payload ⟨h1, h22⟩⟩,
    fun c row f s hreq hp => ?_, fun kind tag p s hk h => ?_⟩
  · intro n known allowed defined written
    refine ⟨?_, ?_, fun hn => ?_, fun hn => ?_, ?_, ?_, ?_, ?_, ?_, ?_⟩
    · intro x hx
      fin_cases hx <;> exact beq_iff_eq
    · exact decide_eq_true_iff
    · have unknown := (itemKnown_iff n).not.mpr hn
      exact ⟨lengthAllowed_read_unknown tag p unknown, lengthAllowed_write_unknown tag p unknown⟩
    · have item := (itemKnown_iff n).mpr hn
      have write {k : Nat} (h : itemLength n (p.drop 1) = k) : allowed 0x04#8 ↔ written k :=
        h ▸ lengthAllowed_write_item tag p item
      refine ⟨lengthAllowed_read_item tag p item, fun h => write (itemLength_one _ h), fun h => write (itemLength_two _ h),
        fun h => write (by rw [h]; rfl), fun h => write (itemLength_four _ h), fun h => write (by rw [h]; rfl),
        fun h => write ?_⟩
      rw [h, itemLength, rd24_drop]
      rfl
    · simp only [defined, subcodesDefined_read, Bool.and_eq_true, Bool.or_eq_true, itemKnown_iff, bne_iff_ne,
        decide_eq_true_eq, ← imp_iff_not_or]
      exact Iff.rfl
    · exact itemKnown_iff n
    · intro x hx
      fin_cases hx <;> exact decide_eq_true_iff
    · intro x hx
      fin_cases hx <;> exact decide_eq_true_iff
    · exact decide_eq_true_iff
    · intro x hx
      fin_cases hx <;> rfl
  · obtain ⟨serve, run⟩ := exec_request hreq
    have refused {st : ReplyStatus} {q : List Byte} (hrow : rowOf f = row) (ht : s.takeable f = true)
        (hpre : precheck f = some (st, q)) : effect c s (answer f st q (arrive f s)) :=
      replies_of_precheck (run s) hrow ⟨hp, ht⟩ hpre
    refine ⟨fun hrow ht => ⟨fun hk => ⟨_, refused hrow ht (precheck_kind hk), rfl, ?_⟩,
      fun h1 h22 hl => ⟨_, refused hrow ht (precheck_length ⟨h1, h22⟩ hl), rfl, ?_⟩,
      fun h1 h22 hl hs => ⟨_, refused hrow ht (precheck_subcode ⟨h1, h22⟩ hl hs), rfl, ?_⟩⟩, fun hn => ?_⟩
    · exact congrArg some (replyTo_unknown f _ _ hk)
    · exact congrArg some (replyTo_known f _ _ ⟨h1, h22⟩)
    · exact congrArg some (replyTo_known f _ _ ⟨h1, h22⟩)
    · refine effect_of_act_eq (run s) hp (takeRequest_no s row f serve ?_)
      rintro ⟨hrow, ht⟩
      exact hn.elim (fun h => h hrow) (fun h => by rw [ht] at h; cases h)
  · exact replies_of_precheck rfl (rowOf_unknown hk) h (precheck_kind hk)

end Sys2Proof.Machine

/-! The bytes of STATUS content (R184, section 12.2): its six parts and where they stand. -/
namespace Sys2Proof.Machine

/-! ## Numbers read from bytes (R195) -/

section Read
variable {p : List Byte} {i v : Nat}

theorem rd16_of_bytes (h0 : rd8 p i = v / 256 % 256) (h1 : rd8 p (i + 1) = v % 256) : rd16 p i = v % 65536 := by
  rw [rd16, h0, h1]
  omega

theorem rd32_of_words (h0 : rd16 p i = v / 65536 % 65536) (h1 : rd16 p (i + 2) = v % 65536) : rd32 p i = v % 4294967296 := by
  rw [rd32, h0, h1]
  omega

theorem rd8_at {q : List Byte} {k : Nat} (h : p.drop k = q) (j : Nat) : rd8 p (k + j) = rd8 q j := by
  rw [← h, rd8_drop]

theorem rd16_at {q : List Byte} {k : Nat} (h : p.drop k = q) (j : Nat) : rd16 p (k + j) = rd16 q j := by
  rw [rd16, rd16, ← rd8_at h j, ← rd8_at h (j + 1)]
  rfl

theorem rd32_at {q : List Byte} {k : Nat} (h : p.drop k = q) (j : Nat) : rd32 p (k + j) = rd32 q j := by
  rw [rd32, rd32, ← rd16_at h j, ← rd16_at h (j + 2)]
  rfl

theorem drop_at {q : List Byte} {k : Nat} (h : p.drop k = q) (j : Nat) : p.drop (k + j) = q.drop j := by
  rw [← h, List.drop_drop]

end Read

/-! ## Packed fields (R196) -/

section Packed

theorem bitsToBytes_length (l : List Bool) : (bitsToBytes l).length = (l.length + 7) / 8 := by
  induction l using bitsToBytes.induct with
  | case1 b7 b6 b5 b4 b3 b2 b1 b0 rest ih =>
    rw [bitsToBytes, List.length_cons, ih]
    simp only [List.length_cons]
    omega
  | case2 => rfl
  | case3 l long nonempty =>
    rw [bitsToBytes.eq_3 l long nonempty]
    have positive : 0 < l.length := List.length_pos_iff.2 nonempty
    have short : l.length < 8 := by
      match l, long with
      | [], _ | [_], _ | [_, _], _ | [_, _, _], _ | [_, _, _, _], _ | [_, _, _, _, _], _ | [_, _, _, _, _, _], _
      | [_, _, _, _, _, _, _], _ => simp only [List.length_cons, List.length_nil, Nat.reduceAdd, Nat.reduceLT]
      | _ :: _ :: _ :: _ :: _ :: _ :: _ :: _ :: _, long => exact (long _ _ _ _ _ _ _ _ _ rfl).elim
    rw [List.length_singleton]
    omega

theorem packFields_length (fs : List (Nat × Nat)) : (packFields fs).length = ((fs.map (fun f => f.1)).sum + 7) / 8 := by
  have width (f : Nat × Nat) : (fieldBits f.1 f.2).length = f.1 := by simp [fieldBits]
  rw [packFields, bitsToBytes_length, List.length_flatMap]
  simp only [width]

theorem packFields_length_of {fs : List (Nat × Nat)} {m n : Nat} (h : (fs.map (fun f => f.1)).sum = m) (hn : (m + 7) / 8 = n) :
    (packFields fs).length = n := by
  rw [packFields_length, h, hn]

end Packed

/-! ## The parts -/

section Parts
variable (time : Word32) (s : State) (k : Truck)

/-- Bytes 0 to 16: time, blend state and the unit's efforts. -/
def State.statusHead : List Byte :=
  u32 time.toNat ++ u8 s.ble.blend.code ++
    u16 s.ble.eAuto ++ u16 s.ble.eDh ++ u16 s.ble.dDem ++ u16 s.ble.capacity ++ u16 s.ble.dAssign ++ u16 s.ble.aFill

/-- The 14 bytes of a truck's pressures, efforts and counts. -/
def State.truckNumbers : List Byte :=
  u16 (s.tpc.get k).target ++ u16 (s.chan k.bcChannel).value ++ u16 (s.am.trucks.get k).ceiling.deci ++
    u16 ((s.ble.trucks.get k).request / 10) ++ u16 ((s.ble.trucks.get k).airTarget / 100) ++
    u16 (s.ble.trucks.get k).limited ++ u16 (s.am.trucks.get k).persist

/-- The fields of a truck's channel. -/
def State.truckChannel : List (Nat × Nat) :=
  [(3, (s.tpc.get k).state.code), (2, (s.tpc.get k).faultCode), (2, (s.chan k.bcChannel).validity.code)]

/-- The fields of a truck's correction and dynamic brake. -/
def State.truckFlags : List (Nat × Nat) :=
  [(2, (s.am.trucks.get k).correction.code), (2, (s.ble.trucks.get k).shortfall.code),
    (1, (s.am.trucks.get k).degraded.toNat), (1, (s.ble.trucks.get k).enable.toNat), (1, (s.am.trucks.get k).sand.toNat)]

/-- The fields of the axles. -/
def State.axleFields : List (Nat × Nat) := s.am.axles.toList.map (fun a => (3, a.state.code))

/-- Bytes 52 to 56: speed, link and role. -/
def State.statusLinks : List Byte :=
  u16 s.vrefCenti ++ flagByte s.am.known ++ u8 s.flm.link.code ++ u8 s.csl.role.code

/-- The fields of CONFLICT and of the enrolment. -/
def State.roleFields : List (Nat × Nat) := [(1, s.csl.conflict.toNat), (1, s.csl.enrolled.toNat)]

/-- Bytes 58 to 64: the consist, the emergency and the penalty. -/
def State.statusConsist : List Byte :=
  u8 ((s.csl.follow.map Follow.code).getD 0) ++
    u8 (s.csl.roster.filter Entry.isActive).length ++
    u8 (s.csl.roster.filter (fun e => !Entry.isActive e)).length ++
    flagByte s.csl.roll.isSome ++
    u8 s.es.cause.code ++ u8 s.es.penaltyCode ++ flagByte s.ble.master

/-- The fields of the settings. -/
def State.settingFields : List (Nat × Nat) := [(1, s.clp.commit.isSome.toNat), (1, s.settingsDiffer.toNat)]

/-- Bytes 74 to 81: the counts. -/
def State.statusCounts : List Byte :=
  u16 s.cap.storeFull ++ u16 s.clp.lostNotices ++ u16 s.clp.discarded ++ u16 s.clp.badFrames

theorem truckContent_eq : s.truckContent k = s.truckNumbers k ++ packFields (s.truckChannel k) ++ packFields (s.truckFlags k) :=
  rfl

theorem statusContent_eq : s.statusContent time = s.statusHead time ++ (s.truckContent .t1 ++ (s.truckContent .t2 ++
    (packFields s.axleFields ++ (s.statusLinks ++ (packFields s.roleFields ++ (s.statusConsist ++ (s.captureContent ++
      (packFields s.settingFields ++ s.statusCounts)))))))) := by
  unfold State.statusContent State.statusHead State.axleFields State.statusLinks State.roleFields State.statusConsist
    State.settingFields State.statusCounts
  simp only [List.append_assoc]

theorem truckChannel_length : (packFields (s.truckChannel k)).length = 1 := packFields_length_of (m := 7) rfl rfl

theorem truckFlags_length : (packFields (s.truckFlags k)).length = 1 := packFields_length_of (m := 7) rfl rfl

theorem truckContent_length : (s.truckContent k).length = 16 := by
  have numbers : (s.truckNumbers k).length = 14 := rfl
  rw [truckContent_eq, List.length_append, List.length_append, numbers, truckChannel_length, truckFlags_length]

theorem captureContent_length : s.captureContent.length = 8 := by
  unfold State.captureContent
  split <;> rfl

theorem axleFields_length : (packFields s.axleFields).length = 3 :=
  packFields_length_of (m := 18) rfl rfl

theorem roleFields_length : (packFields s.roleFields).length = 1 :=
  packFields_length_of (m := 2) rfl rfl

theorem settingFields_length : (packFields s.settingFields).length = 1 :=
  packFields_length_of (m := 2) rfl rfl

theorem statusContent_length : (s.statusContent time).length = 82 := by
  rw [statusContent_eq]
  simp only [List.length_append, truckContent_length, axleFields_length, roleFields_length, captureContent_length,
    settingFields_length]
  rfl

/-! ### Where they stand -/

theorem drop_part {p a l : List Byte} {k n : Nat} (h : p.drop k = a ++ l) (hl : a.length = n) : p.drop (k + n) = l := by
  rw [drop_at h n, ← hl, List.drop_left]

theorem statusContent_drop_t1 : (s.statusContent time).drop 17 = s.truckContent .t1 ++ (s.truckContent .t2 ++
    (packFields s.axleFields ++ (s.statusLinks ++ (packFields s.roleFields ++ (s.statusConsist ++ (s.captureContent ++
      (packFields s.settingFields ++ s.statusCounts))))))) :=
  drop_part (k := 0) (n := 17) (statusContent_eq time s) rfl

theorem statusContent_drop_t2 : (s.statusContent time).drop 33 = s.truckContent .t2 ++
    (packFields s.axleFields ++ (s.statusLinks ++ (packFields s.roleFields ++ (s.statusConsist ++ (s.captureContent ++
      (packFields s.settingFields ++ s.statusCounts)))))) :=
  drop_part (k := 17) (n := 16) (statusContent_drop_t1 time s) (truckContent_length s .t1)

theorem statusContent_drop_axles : (s.statusContent time).drop 49 = packFields s.axleFields ++ (s.statusLinks ++
    (packFields s.roleFields ++ (s.statusConsist ++ (s.captureContent ++ (packFields s.settingFields ++ s.statusCounts))))) :=
  drop_part (k := 33) (n := 16) (statusContent_drop_t2 time s) (truckContent_length s .t2)

theorem statusContent_drop_links : (s.statusContent time).drop 52 = s.statusLinks ++
    (packFields s.roleFields ++ (s.statusConsist ++ (s.captureContent ++ (packFields s.settingFields ++ s.statusCounts)))) :=
  drop_part (k := 49) (n := 3) (statusContent_drop_axles time s) (axleFields_length s)

theorem statusContent_drop_role : (s.statusContent time).drop 57 =
    packFields s.roleFields ++ (s.statusConsist ++ (s.captureContent ++ (packFields s.settingFields ++ s.statusCounts))) :=
  drop_part (k := 52) (n := 5) (statusContent_drop_links time s) rfl

theorem statusContent_drop_consist : (s.statusContent time).drop 58 =
    s.statusConsist ++ (s.captureContent ++ (packFields s.settingFields ++ s.statusCounts)) :=
  drop_part (k := 57) (n := 1) (statusContent_drop_role time s) (roleFields_length s)

theorem statusContent_drop_capture : (s.statusContent time).drop 65 =
    s.captureContent ++ (packFields s.settingFields ++ s.statusCounts) :=
  drop_part (k := 58) (n := 7) (statusContent_drop_consist time s) rfl

theorem statusContent_drop_settings : (s.statusContent time).drop 73 = packFields s.settingFields ++ s.statusCounts :=
  drop_part (k := 65) (n := 8) (statusContent_drop_capture time s) (captureContent_length s)

theorem statusContent_drop_counts : (s.statusContent time).drop 74 = s.statusCounts :=
  drop_part (k := 73) (n := 1) (statusContent_drop_settings time s) (settingFields_length s)

end Parts

/-! ## The fields of each part -/

section Fields
variable (time : Word32) (s : State) (k : Truck) (l : List Byte)

theorem statusHead_fields : rd32 (s.statusHead time ++ l) 0 = time.toNat ∧
    rd8 (s.statusHead time ++ l) 4 = s.ble.blend.code % 256 ∧ rd16 (s.statusHead time ++ l) 5 = s.ble.eAuto % 65536 ∧
    rd16 (s.statusHead time ++ l) 7 = s.ble.eDh % 65536 ∧ rd16 (s.statusHead time ++ l) 9 = s.ble.dDem % 65536 ∧
    rd16 (s.statusHead time ++ l) 11 = s.ble.capacity % 65536 ∧ rd16 (s.statusHead time ++ l) 13 = s.ble.dAssign % 65536 ∧
    rd16 (s.statusHead time ++ l) 15 = s.ble.aFill % 65536 := by
  refine ⟨?_, rfl, rd16_of_bytes rfl rfl, rd16_of_bytes rfl rfl, rd16_of_bytes rfl rfl, rd16_of_bytes rfl rfl,
    rd16_of_bytes rfl rfl, rd16_of_bytes rfl rfl⟩
  have word : rd32 (s.statusHead time ++ l) 0 = time.toNat % 4294967296 :=
    rd32_of_words (rd16_of_bytes rfl rfl) (rd16_of_bytes rfl rfl)
  rw [word, Nat.mod_eq_of_lt time.isLt]

theorem truckNumbers_fields : rd16 (s.truckNumbers k ++ l) 0 = (s.tpc.get k).target % 65536 ∧
    rd16 (s.truckNumbers k ++ l) 2 = (s.chan k.bcChannel).value % 65536 ∧
    rd16 (s.truckNumbers k ++ l) 4 = (s.am.trucks.get k).ceiling.deci % 65536 ∧
    rd16 (s.truckNumbers k ++ l) 6 = (s.ble.trucks.get k).request / 10 % 65536 ∧
    rd16 (s.truckNumbers k ++ l) 8 = (s.ble.trucks.get k).airTarget / 100 % 65536 ∧
    rd16 (s.truckNumbers k ++ l) 10 = (s.ble.trucks.get k).limited % 65536 ∧
    rd16 (s.truckNumbers k ++ l) 12 = (s.am.trucks.get k).persist % 65536 :=
  ⟨rd16_of_bytes rfl rfl, rd16_of_bytes rfl rfl, rd16_of_bytes rfl rfl, rd16_of_bytes rfl rfl, rd16_of_bytes rfl rfl,
    rd16_of_bytes rfl rfl, rd16_of_bytes rfl rfl⟩

/-- A packed part, by its place. -/
theorem take_part {p a : List Byte} {i n : Nat} (h : p.drop i = a ++ l) (hl : a.length = n) : (p.drop i).take n = a := by
  rw [h, ← hl, List.take_left]

/-- The 16 bytes of a truck, where they stand. -/
theorem truckContent_fields {p : List Byte} {i : Nat} (h : p.drop i = s.truckContent k ++ l) :
    rd16 p i = (s.tpc.get k).target % 65536 ∧ rd16 p (i + 2) = (s.chan k.bcChannel).value % 65536 ∧
    rd16 p (i + 4) = (s.am.trucks.get k).ceiling.deci % 65536 ∧
    rd16 p (i + 6) = (s.ble.trucks.get k).request / 10 % 65536 ∧
    rd16 p (i + 8) = (s.ble.trucks.get k).airTarget / 100 % 65536 ∧
    rd16 p (i + 10) = (s.ble.trucks.get k).limited % 65536 ∧ rd16 p (i + 12) = (s.am.trucks.get k).persist % 65536 ∧
    (p.drop (i + 14)).take 1 = packFields (s.truckChannel k) ∧ (p.drop (i + 15)).take 1 = packFields (s.truckFlags k) := by
  have parts : p.drop i = s.truckNumbers k ++ (packFields (s.truckChannel k) ++ (packFields (s.truckFlags k) ++ l)) := by
    rw [h, truckContent_eq, List.append_assoc, List.append_assoc]
  have channel := drop_part (n := 14) parts rfl
  have flags := drop_part channel (truckChannel_length s k)
  obtain ⟨h0, h2, h4, h6, h8, h10, h12⟩ :=
    truckNumbers_fields s k (packFields (s.truckChannel k) ++ (packFields (s.truckFlags k) ++ l))
  exact ⟨(rd16_at parts 0).trans h0, (rd16_at parts 2).trans h2, (rd16_at parts 4).trans h4, (rd16_at parts 6).trans h6,
    (rd16_at parts 8).trans h8, (rd16_at parts 10).trans h10, (rd16_at parts 12).trans h12,
    take_part _ channel (truckChannel_length s k),
    take_part _ flags (truckFlags_length s k)⟩

theorem statusLinks_fields : rd16 (s.statusLinks ++ l) 0 = s.am.vref / 100 % 65536 ∧
    rd8 (s.statusLinks ++ l) 2 = s.am.known.toNat % 256 ∧ rd8 (s.statusLinks ++ l) 3 = s.flm.link.code % 256 ∧
    rd8 (s.statusLinks ++ l) 4 = s.csl.role.code % 256 := ⟨rd16_of_bytes rfl rfl, rfl, rfl, rfl⟩

theorem statusConsist_fields : rd8 (s.statusConsist ++ l) 0 = ((s.csl.follow.map Follow.code).getD 0) % 256 ∧
    rd8 (s.statusConsist ++ l) 1 = (s.csl.roster.filter (fun e => e.state == .active)).length % 256 ∧
    rd8 (s.statusConsist ++ l) 2 = (s.csl.roster.filter (fun e => e.state == .lost)).length % 256 ∧
    rd8 (s.statusConsist ++ l) 3 = s.csl.roll.isSome.toNat % 256 ∧ rd8 (s.statusConsist ++ l) 4 = s.es.cause.code % 256 ∧
    rd8 (s.statusConsist ++ l) 5 = s.es.penaltyCode % 256 ∧ rd8 (s.statusConsist ++ l) 6 = s.ble.master.toNat % 256 := by
  have lost : s.csl.roster.filter (fun e => !Entry.isActive e) = s.csl.roster.filter (fun e => e.state == .lost) := by
    refine List.filter_congr fun e _ => ?_
    unfold Entry.isActive
    cases e.state <;> rfl
  refine ⟨rfl, rfl, ?_, rfl, rfl, rfl, rfl⟩
  rw [← lost]
  rfl

theorem statusCounts_fields : rd16 s.statusCounts 0 = s.cap.storeFull % 65536 ∧
    rd16 s.statusCounts 2 = s.clp.lostNotices % 65536 ∧ rd16 s.statusCounts 4 = s.clp.discarded % 65536 ∧
    rd16 s.statusCounts 6 = s.clp.badFrames % 65536 :=
  ⟨rd16_of_bytes rfl rfl, rd16_of_bytes rfl rfl, rd16_of_bytes rfl rfl, rd16_of_bytes rfl rfl⟩

theorem captureContent_state : rd8 (s.captureContent ++ l) 0 = s.cap.state.code % 256 := by
  unfold State.captureContent
  split <;> rfl

theorem captureContent_none (h : s.cap.record = none) : rd32 (s.captureContent ++ l) 1 = 0 ∧
    rd8 (s.captureContent ++ l) 5 = 0 ∧ rd16 (s.captureContent ++ l) 6 = 0 := by
  have content : s.captureContent = u8 s.cap.state.code ++ u32 0 ++ u8 0 ++ u16 0 := by simp only [State.captureContent, h]
  rw [content]
  exact ⟨(rd32_of_words (v := 0) (rd16_of_bytes rfl rfl) (rd16_of_bytes rfl rfl)).trans (Nat.zero_mod _), rfl,
    (rd16_of_bytes (v := 0) rfl rfl).trans (Nat.zero_mod _)⟩

theorem captureContent_record {r : OpenRecord} {i : RecordInfo} (h : s.cap.record = some r)
    (hi : (s.entry r.slot).record = some i) : rd32 (s.captureContent ++ l) 1 = r.number % 4294967296 ∧
      rd8 (s.captureContent ++ l) 5 = r.source.code % 256 ∧ rd16 (s.captureContent ++ l) 6 = i.blocks % 65536 := by
  have held : (s.store.dir.getD r.slot ⟨.free, none⟩).record = some i := hi
  have content : s.captureContent = u8 s.cap.state.code ++ u32 r.number ++ u8 r.source.code ++ u16 i.blocks := by
    simp only [State.captureContent, h, held, Option.map_some, Option.getD_some]
  rw [content]
  exact ⟨rd32_of_words (rd16_of_bytes rfl rfl) (rd16_of_bytes rfl rfl), rfl, rd16_of_bytes rfl rfl⟩

theorem settingsDiffer_iff : s.settingsDiffer = true ↔ s.clp.imageValid = false ∨ s.clp.working ≠ s.clp.image := by
  simp only [State.settingsDiffer, Bool.or_eq_true, Bool.not_eq_true', decide_eq_true_eq]

end Fields

end Sys2Proof.Machine

/-! The requests that read (R158, R184 to R186, R192): their replies, the bytes of STATUS, RECORD_LIST and the items. -/
namespace Sys2Proof.Machine

theorem precheck_passed {f : ReqFrame} (known : kindKnown f = true) (hl : lengthAllowed f = true)
    (hs : subcodesDefined f = true) : precheck f = none := by
  simp only [precheck, known, hl, hs, Bool.not_true, Bool.false_eq_true, if_false]

/-! ## The replies -/

section Replies
variable (s : State)

/-- What CONFIG_READ of a value pair holds (R186). -/
def State.readContent (s : State) (w i : List Byte) : List Byte := w ++ i ++ flagByte (decide (w ≠ i) || !s.clp.imageValid)

variable {s} {tag : Byte}

theorem identify_replies (h : s.ready ⟨0x01#8, tag, []⟩) : replies (.identify tag []) s ⟨0x01#8, tag, []⟩ .ok
    ([0x6B#8, 0x36#8, s.rom.siliconRevision] ++
      u32 (if s.clp.working.unitIdentity = 0 then s.rom.factoryIdentity else s.clp.working.unitIdentity) ++
      u32 s.rom.factoryIdentity) (arrive ⟨0x01#8, tag, []⟩ s) := by
  refine replies_of_serve rfl rfl h rfl ?_
  obtain ⟨q, form⟩ := arrive_form ⟨0x01#8, tag, []⟩ s
  rw [form]
  rfl

theorem status_replies (h : s.ready ⟨0x02#8, tag, []⟩) :
    replies (.status tag []) s ⟨0x02#8, tag, []⟩ .ok (s.statusContent s.time) (arrive ⟨0x02#8, tag, []⟩ s) := by
  refine replies_of_serve rfl rfl h rfl ?_
  obtain ⟨q, form⟩ := arrive_form ⟨0x02#8, tag, []⟩ s
  rw [form]
  rfl

theorem restart_replies (h : s.ready ⟨0x16#8, tag, []⟩) :
    replies (.restart tag []) s ⟨0x16#8, tag, []⟩ .ok [] (arrive ⟨0x16#8, tag, []⟩ s) :=
  replies_of_serve rfl rfl h rfl rfl

theorem configRead_replies {p : List Byte} (h : s.ready ⟨0x03#8, tag, p⟩) (hp : precheck ⟨0x03#8, tag, p⟩ = none) :
    replies (.configRead tag p) s ⟨0x03#8, tag, p⟩ .ok
      (s.readContent (itemBytes (rd8 p 0) (rd8 p 1) s.clp.working) (itemBytes (rd8 p 0) (rd8 p 1) s.clp.image))
      (arrive ⟨0x03#8, tag, p⟩ s) := by
  refine replies_of_serve rfl rfl h hp ?_
  obtain ⟨q, form⟩ := arrive_form ⟨0x03#8, tag, p⟩ s
  rw [form]
  rfl

theorem configRead_item_precheck {item : Byte} (h1 : 1 ≤ item.toNat) (h29 : item.toNat ≤ 29) (h2 : item ≠ 2#8) :
    precheck ⟨0x03#8, tag, [item]⟩ = none := by
  have other : item.toNat ≠ 2 := fun h => h2 (BitVec.eq_of_toNat_eq h)
  have known : itemKnown (rd8 [item] 0) = true := (itemKnown_iff _).mpr ⟨h1, h29⟩
  have single : (if rd8 [item] 0 = 2 then 2 else 1) = 1 := if_neg other
  have notMap : (rd8 [item] 0 != 2) = true := bne_iff_ne.mpr other
  refine precheck_passed rfl ((lengthAllowed_read_item tag [item] known).mpr single.symm) ?_
  rw [subcodesDefined_read, known, notMap]
  rfl

theorem configRead_channel_precheck {channel : Byte} (h : channel.toNat ≤ 16) :
    precheck ⟨0x03#8, tag, [2#8, channel]⟩ = none := by
  have within : decide (rd8 [2#8, channel] 1 ≤ 16) = true := decide_eq_true h
  refine precheck_passed rfl rfl ?_
  rw [subcodesDefined_read, within]
  rfl

theorem recordList_replies {p : List Byte} (h : s.ready ⟨0x10#8, tag, p⟩) (hp : p.length = 4) :
    replies (.recordList tag p) s ⟨0x10#8, tag, p⟩ .ok (s.recordListContent (rd32 p 0)) (arrive ⟨0x10#8, tag, p⟩ s) := by
  have length : lengthAllowed ⟨0x10#8, tag, p⟩ = true := beq_iff_eq.mpr hp
  refine replies_of_serve rfl rfl h (precheck_passed rfl length rfl) ?_
  obtain ⟨q, form⟩ := arrive_form ⟨0x10#8, tag, p⟩ s
  rw [form]
  rfl

end Replies

/-! ## RECORD_LIST (R158, section 12.3) -/

section RecordList
variable (s : State) (start : Nat)

theorem insertListed_perm (x : Listed) (l : List Listed) : (insertListed x l).Perm (x :: l) := by
  induction l with
  | nil => rfl
  | cons y rest ih =>
    unfold insertListed
    split
    · rfl
    · exact (ih.cons y).trans (List.Perm.swap x y rest)

theorem insertListed_pairwise (x : Listed) (l : List Listed) (h : l.Pairwise (fun x y => x.info.number ≤ y.info.number)) :
    (insertListed x l).Pairwise (fun x y => x.info.number ≤ y.info.number) := by
  induction h with
  | nil => exact List.pairwise_singleton _ x
  | @cons y rest least sorted ih =>
    unfold insertListed
    split
    next below =>
      refine List.pairwise_cons.mpr ⟨fun z hz => ?_, List.pairwise_cons.mpr ⟨least, sorted⟩⟩
      obtain rfl | hz := List.mem_cons.mp hz
      · exact below
      · exact below.trans (least z hz)
    next above =>
      refine List.pairwise_cons.mpr ⟨fun z hz => ?_, ih⟩
      obtain rfl | hz := List.mem_cons.mp ((insertListed_perm x rest).mem_iff.mp hz)
      · exact Nat.le_of_not_le above
      · exact least z hz

theorem foldr_insertListed_perm (l : List Listed) : (l.foldr insertListed []).Perm l := by
  induction l with
  | nil => rfl
  | cons x rest ih => exact (insertListed_perm x _).trans (ih.cons x)

theorem listed_pairwise : (s.listed start).Pairwise (fun x y => x.info.number ≤ y.info.number) :=
  List.foldrRecOn _ insertListed List.Pairwise.nil fun l h x _ => insertListed_pairwise x l h

theorem listedAt_iff (slot : Nat) (x : Listed) : s.listedAt start slot = some x ↔
    slot = x.slot ∧ x.state = (s.entry x.slot).state ∧ (s.entry x.slot).record = some x.info ∧ start ≤ x.info.number := by
  unfold State.listedAt
  constructor
  · intro h
    obtain ⟨i, hi, h⟩ := Option.bind_eq_some_iff.mp h
    obtain ⟨hn, h⟩ := Option.ite_none_right_eq_some.mp h
    obtain rfl := Option.some.inj h
    exact ⟨rfl, rfl, hi, hn⟩
  · rintro ⟨rfl, hst, hrec, hn⟩
    rw [hrec, Option.bind_some, if_pos hn, ← hst]

theorem mem_listed (x : Listed) : x ∈ s.listed start ↔
    x.slot < 48 ∧ x.state = (s.entry x.slot).state ∧ (s.entry x.slot).record = some x.info ∧ start ≤ x.info.number := by
  rw [State.listed, (foldr_insertListed_perm _).mem_iff, List.mem_filterMap]
  constructor
  · rintro ⟨slot, hslot, h⟩
    obtain ⟨rfl, rest⟩ := (listedAt_iff s start slot x).mp h
    exact ⟨List.mem_range.mp hslot, rest⟩
  · rintro ⟨hslot, rest⟩
    exact ⟨x.slot, List.mem_range.mpr hslot, (listedAt_iff s start x.slot x).mpr ⟨rfl, rest⟩⟩

theorem listed_slots_nodup : ((s.listed start).map (fun x => x.slot)).Nodup := by
  rw [State.listed, ((foldr_insertListed_perm _).map _).nodup_iff, List.Nodup, List.pairwise_map, List.pairwise_filterMap]
  refine List.nodup_range.imp fun {i j} hne x hx y hy => ?_
  rw [← ((listedAt_iff s start i x).mp hx).1, ← ((listedAt_iff s start j y).mp hy).1]
  exact hne

end RecordList

/-! ## The codes of STATUS and RECORD_LIST -/

theorem stateCode_closed (i : RecordInfo) : stateCode .closed i =
    (if i.damaged then 10 else 6) + (i.close.map CloseStatus.code).getD 0 := by
  unfold stateCode
  cases i.damaged <;> rfl

/-- Settles O55. -/
theorem readRequests : Obligations.ReadRequests := by
  refine ⟨fun tag item p s => ?_, fun time s => ?_, fun start s => ?_, fun w => ?_⟩
  · intro own reads
    refine ⟨identify_replies, status_replies, restart_replies, fun h1 h29 h2 => ?_, fun hc => ?_,
      fun hp h => recordList_replies h hp⟩
    · intro w i h
      exact configRead_replies h (configRead_item_precheck h1 h29 h2)
    · intro w i h
      exact configRead_replies h (configRead_channel_precheck hc)
  · intro c one two bits count
    obtain ⟨h0, h4, h5, h7, h9, h11, h13, h15⟩ := statusHead_fields time s _
    have links := statusContent_drop_links time s
    have consist := statusContent_drop_consist time s
    have capture := statusContent_drop_capture time s
    have counts := statusContent_drop_counts time s
    obtain ⟨l0, l2, l3, l4⟩ := statusLinks_fields s _
    obtain ⟨c0, c1, c2, c3, c4, c5, c6⟩ := statusConsist_fields s _
    obtain ⟨n0, n2, n4, n6⟩ := statusCounts_fields s
    rw [← statusContent_eq] at h0 h4 h5 h7 h9 h11 h13 h15
    refine ⟨statusContent_length time s, h0, h4, h5, h7, h9, h11, h13, h15, fun k => ?_,
      take_part _ (statusContent_drop_axles time s) (axleFields_length s), (rd16_at links 0).trans l0,
      (rd8_at links 2).trans l2, (rd8_at links 3).trans l3, (rd8_at links 4).trans l4,
      take_part _ (statusContent_drop_role time s) (roleFields_length s), (rd8_at consist 0).trans c0,
      (rd8_at consist 1).trans c1, (rd8_at consist 2).trans c2, (rd8_at consist 3).trans c3, (rd8_at consist 4).trans c4,
      (rd8_at consist 5).trans c5, (rd8_at consist 6).trans c6, (rd8_at capture 0).trans (captureContent_state s _),
      fun h => ?_, fun r i h hi => ?_, take_part _ (statusContent_drop_settings time s) (settingFields_length s),
      settingsDiffer_iff s, (rd16_at counts 0).trans n0, (rd16_at counts 2).trans n2, (rd16_at counts 4).trans n4,
      (rd16_at counts 6).trans n6⟩
    · cases k
      case t1 => exact truckContent_fields s .t1 _ (statusContent_drop_t1 time s)
      case t2 => exact truckContent_fields s .t2 _ (statusContent_drop_t2 time s)
    · obtain ⟨r1, r5, r6⟩ := captureContent_none s _ h
      exact ⟨(rd32_at capture 1).trans r1, (rd8_at capture 5).trans r5, (rd16_at capture 6).trans r6⟩
    · obtain ⟨r1, r5, r6⟩ := captureContent_record s _ h hi
      exact ⟨(rd32_at capture 1).trans r1, (rd8_at capture 5).trans r5, (rd16_at capture 6).trans r6⟩
  · intro state fields
    refine ⟨s.listed start, mem_listed s start, listed_slots_nodup s start, listed_pairwise s start, ?_⟩
    have code (x : Listed) : stateCode x.state x.info = state x := by
      unfold state
      cases x.state
      case closed => exact stateCode_closed x.info
      all_goals rfl
    have entry : (fun x : Listed => entryFields x.slot x.state x.info) = fields := by
      funext x
      rw [entryFields, code]
    have more (b : Prop) [Decidable b] : (decide b).toNat = if b then 1 else 0 := by
      by_cases h : b <;> simp only [h, decide_true, decide_false, Bool.toNat_true, Bool.toNat_false, if_true, if_false]
    simp only [State.recordListContent, List.length_take, entry, more]
  · intro bytes
    refine ⟨fun x hx => ?_, fun x hx => ?_, fun x hx => ?_, rfl, rfl, rfl, rfl, rfl⟩
    all_goals fin_cases hx <;> rfl

end Sys2Proof.Machine

/-! The items of the configuration (section 11.4): their ranges, and the value a write takes from its bytes (R187, R197). -/
namespace Sys2Proof.Machine

/-! ## Ranges -/

theorem slotsDistinct_iff (l : List Nat) : slotsDistinct l = true ↔ (l.filter (fun x => x != 0)).Nodup := by
  induction l with
  | nil => exact iff_of_true rfl List.nodup_nil
  | cons x rest ih =>
    rw [slotsDistinct, Bool.and_eq_true, ih]
    by_cases hx : x = 0
    · subst hx
      exact ⟨fun h => h.2, fun h => ⟨rfl, h⟩⟩
    · have named : (x != 0) = true := bne_iff_ne.mpr hx
      have fresh : (x == 0 || !rest.contains x) = true ↔ x ∉ rest := by
        simp [hx]
      rw [List.filter_cons_of_pos (p := fun x => x != 0) named, List.nodup_cons, List.mem_filter, fresh]
      exact ⟨fun h => ⟨fun m => h.1 m.1, h.2⟩, fun h => ⟨fun m => h.1 ⟨m, named⟩, h.2⟩⟩

theorem speedsAscend_iff (l : List (Nat × Nat)) : speedsAscend l = true ↔ l.Pairwise (fun p q => p.1 < q.1) := by
  induction l with
  | nil => exact iff_of_true rfl List.Pairwise.nil
  | cons a l ih =>
    cases l with
    | nil => exact iff_of_true rfl (List.pairwise_singleton _ a)
    | cons b rest =>
      rw [speedsAscend, Bool.and_eq_true, ih, decide_eq_true_iff, List.pairwise_cons (a := a)]
      constructor
      · rintro ⟨hab, sorted⟩
        refine ⟨fun q hq => ?_, sorted⟩
        obtain rfl | hq := List.mem_cons.mp hq
        · exact hab
        · exact hab.trans ((List.pairwise_cons.mp sorted).1 q hq)
      · rintro ⟨first, sorted⟩
        exact ⟨first b List.mem_cons_self, sorted⟩

section Ranges
variable (w : Settings)

theorem slotMap_inRange_iff : itemInRange 2 w = true ↔
    w.slotMap.length = 17 ∧ (∀ x ∈ w.slotMap, x ≤ 31) ∧ (w.slotMap.filter (fun x => x != 0)).Nodup := by
  have range : itemInRange 2 w = (w.slotMap.length == 17 && w.slotMap.all (· ≤ 31) && slotsDistinct w.slotMap) := rfl
  simp only [range, Bool.and_eq_true, beq_iff_eq, List.all_eq_true, decide_eq_true_eq, slotsDistinct_iff, and_assoc]

theorem dbCurve_inRange_iff : itemInRange 14 w = true ↔ w.dbCurve.length = 16 ∧
    (∀ p ∈ w.dbCurve, p.1 ≤ 15000 ∧ p.2 ≤ 3000) ∧ w.dbCurve.Pairwise (fun p q => p.1 < q.1) := by
  have range : itemInRange 14 w =
    (w.dbCurve.length == 16 && w.dbCurve.all (fun p => p.1 ≤ 15000 && p.2 ≤ 3000) && speedsAscend w.dbCurve) := rfl
  simp only [range, Bool.and_eq_true, beq_iff_eq, List.all_eq_true, decide_eq_true_eq, speedsAscend_iff, and_assoc]

theorem reportInterval_inRange_iff : itemInRange 29 w = true ↔
    w.reportInterval = 0 ∨ 20 ≤ w.reportInterval ∧ w.reportInterval ≤ 1000 ∧ w.reportInterval % 20 = 0 := by
  have range : itemInRange 29 w = (w.reportInterval == 0 ||
    decide (20 ≤ w.reportInterval ∧ w.reportInterval ≤ 1000 ∧ w.reportInterval % 20 = 0)) := rfl
  rw [range, Bool.or_eq_true, beq_iff_eq, decide_eq_true_iff]

end Ranges

/-! ## The slots named in a mask (R13, R197) -/

section Remap

theorem remap_length (map cs : List Nat) (bs : List Byte) : (remap map cs bs).length = map.length := by
  induction cs generalizing map bs with
  | nil => rw [remap.eq_2]; exact fun _ _ _ _ h => nomatch h
  | cons c cs ih =>
    cases bs with
    | nil => rw [remap.eq_2]; exact fun _ _ _ _ _ h => nomatch h
    | cons b bs => rw [remap, ih, List.length_set]

/-- A channel named as the `k`-th of an ascending list takes the `k`-th byte; the other channels keep their slots. -/
theorem remap_getD {cs map : List Nat} {bs : List Byte} {c : Nat} (sorted : cs.Pairwise (· < ·)) (hc : c < map.length)
    (hb : cs.length ≤ bs.length) : (remap map cs bs).getD c 0 =
      if c ∈ cs then rd8 bs (cs.filter (fun x => decide (x < c))).length else map.getD c 0 := by
  induction cs generalizing map bs with
  | nil => rfl
  | cons x cs ih =>
    obtain _ | ⟨b, bs⟩ := bs
    case nil => exact absurd hb (Nat.not_succ_le_zero _)
    case cons =>
      obtain ⟨above, sorted⟩ := List.pairwise_cons.mp sorted
      rw [remap, ih sorted (by rwa [List.length_set]) (Nat.le_of_succ_le_succ hb)]
      obtain rfl | hne := eq_or_ne c x
      · have absent : c ∉ cs := fun h => lt_irrefl c (above c h)
        have least : (c :: cs).filter (fun x => decide (x < c)) = [] := by
          refine List.filter_eq_nil_iff.mpr fun y hy => ?_
          obtain rfl | hy := List.mem_cons.mp hy
          · simp only [lt_irrefl, decide_false, Bool.false_eq_true, not_false_iff]
          · simp only [(above y hy).not_gt, decide_false, Bool.false_eq_true, not_false_iff]
        rw [if_neg absent, if_pos List.mem_cons_self, least, List.getD_eq_getElem?_getD, List.getElem?_set_self hc]
        rfl
      · have keeps : (map.set x b.toNat).getD c 0 = map.getD c 0 := by
          rw [List.getD_eq_getElem?_getD, List.getElem?_set_ne hne.symm, List.getD_eq_getElem?_getD]
        by_cases hm : c ∈ cs
        · have below : decide (x < c) = true := decide_eq_true (above c hm)
          rw [if_pos hm, if_pos (List.mem_cons_of_mem x hm), List.filter_cons_of_pos (p := fun x => decide (x < c)) below]
          rfl
        · have absent : c ∉ x :: cs := fun h => (List.mem_cons.mp h).elim hne hm
          rw [if_neg hm, if_neg absent, keeps]

theorem mem_namedChannels {m c : Nat} (hc : c < 17) : c ∈ namedChannels m ↔ m.testBit c = true := by
  rw [namedChannels, List.mem_filter, List.mem_range]
  exact and_iff_right hc

theorem namedChannels_below {m c : Nat} (hc : c ≤ 17) : (namedChannels m).filter (fun x => decide (x < c)) =
    (List.range c).filter (fun x => m.testBit x) := by
  have split : List.range 17 = List.range c ++ (List.range (17 - c)).map (c + ·) := by
    rw [← List.range_add, Nat.add_sub_of_le hc]
  have above : ((List.range (17 - c)).map (c + ·)).filter (fun x => decide (x < c) && m.testBit x) = [] := by
    simp [List.filter_eq_nil_iff]
  rw [namedChannels, List.filter_filter, split, List.filter_append, above, List.append_nil]
  refine List.filter_congr fun x hx => ?_
  rw [decide_eq_true (List.mem_range.mp hx), Bool.true_and]

theorem namedChannels_sorted (m : Nat) : (namedChannels m).Pairwise (· < ·) := List.pairwise_lt_range.filter _

end Remap

/-! ## The points of DB_CURVE (R23, R197) -/

theorem curvePoints_eq (m : Nat) (v : List Byte) (h : v.length = 4 * m) :
    curvePoints v = (List.range m).map (fun k => (rd16 v (4 * k), rd16 v (4 * k + 2))) := by
  induction m generalizing v with
  | zero =>
    obtain rfl := List.eq_nil_of_length_eq_zero h
    rfl
  | succ m ih =>
    match v, h with
    | a :: b :: c :: d :: rest, h =>
      have tail : rest.length = 4 * m := by
        simp only [List.length_cons] at h
        omega
      rw [curvePoints, ih rest tail, List.range_succ_eq_map, List.map_cons, List.map_map]
      rfl

/-! ## The enables of TRIGGER_ENABLE (R134) -/

theorem triggerEnable_bit (e m v : BitVec 8) {n : Nat} (hn : n < 8) :
    ((e &&& ~~~(m &&& ~~~1#8)) ||| (v &&& (m &&& ~~~1#8))).getLsbD n =
      if (n != 0 && m.getLsbD n) = true then v.getLsbD n else e.getLsbD n := by
  have one : (1#8).getLsbD n = decide (n = 0) := by
    rw [BitVec.getLsbD_one]
    simp
  simp only [BitVec.getLsbD_or, BitVec.getLsbD_and, BitVec.getLsbD_not, one, hn, decide_true, Bool.true_and]
  by_cases h0 : n = 0
  · simp [h0]
  · cases m.getLsbD n <;> simp [h0]

end Sys2Proof.Machine

/-! CONFIG_WRITE (R187): range, condition, value. -/
namespace Sys2Proof.Machine

section Write
variable {tag n : Byte} {v : List Byte} {s : State}

theorem write_precheck (hl : lengthAllowed ⟨0x04#8, tag, n :: v⟩ = true) (h1 : 1 ≤ n.toNat) (h29 : n.toNat ≤ 29) :
    precheck ⟨0x04#8, tag, n :: v⟩ = none := precheck_passed rfl hl ((itemKnown_iff n.toNat).mpr ⟨h1, h29⟩)

theorem writeInRange_iff (w : Settings) : writeInRange n.toNat v w = true ↔
    codeInRange n.toNat v = true ∧ itemInRange n.toNat (Settings.write n.toNat v w) = true := Bool.and_eq_true_iff

/-- Writes to the queue leave the working set. -/
theorem arrive_working (f : ReqFrame) (s : State) : (arrive f s).clp.working = s.clp.working := by
  obtain ⟨q, form⟩ := arrive_form f s
  rw [form]

section Serve
variable {cond : State → Option ReplyStatus} {after : State → State → State} (r : State)

theorem serveWriteIf_bad (h : writeInRange n.toNat v r.clp.working ≠ true) :
    serveWriteIf cond after (n :: v) r = .reply .badValue [] r := if_neg h

theorem serveWriteIf_refused (h : writeInRange n.toNat v r.clp.working = true) {st : ReplyStatus} (hc : cond r = some st) :
    serveWriteIf cond after (n :: v) r = .reply st [] r := by
  refine (if_pos h).trans ?_
  rw [hc]
  rfl

theorem serveWriteIf_done (h : writeInRange n.toNat v r.clp.working = true) (hc : cond r = none) :
    serveWriteIf cond after (n :: v) r =
      .reply .ok [] (after r (setWorking (Settings.write n.toNat v r.clp.working) r)) := by
  refine (if_pos h).trans ?_
  rw [hc]
  rfl

end Serve

section Replies
variable {cond : State → Option ReplyStatus} {after : State → State → State} {c : Instr} {row : ReqRow}
  (hc : exec c s = act (takeRequest row ⟨0x04#8, tag, n :: v⟩ (serveWriteIf cond after)) s)
  (hr : rowOf ⟨0x04#8, tag, n :: v⟩ = row) (h : s.ready ⟨0x04#8, tag, n :: v⟩)
  (hp : precheck ⟨0x04#8, tag, n :: v⟩ = none)
include hc hr h hp

theorem write_bad (hw : ¬(codeInRange n.toNat v = true ∧ itemInRange n.toNat (Settings.write n.toNat v s.clp.working) = true)) :
    replies c s ⟨0x04#8, tag, n :: v⟩ .badValue [] (arrive ⟨0x04#8, tag, n :: v⟩ s) := by
  refine replies_of_serve hc hr h hp (serveWriteIf_bad _ ?_)
  rwa [arrive_working, ne_eq, writeInRange_iff]

theorem write_refused (hw : codeInRange n.toNat v = true ∧ itemInRange n.toNat (Settings.write n.toNat v s.clp.working) = true)
    {st : ReplyStatus} (hst : cond (arrive ⟨0x04#8, tag, n :: v⟩ s) = some st) :
    replies c s ⟨0x04#8, tag, n :: v⟩ st [] (arrive ⟨0x04#8, tag, n :: v⟩ s) := by
  refine replies_of_serve hc hr h hp (serveWriteIf_refused _ ?_ hst)
  rwa [arrive_working, writeInRange_iff]

theorem write_done (hw : codeInRange n.toNat v = true ∧ itemInRange n.toNat (Settings.write n.toNat v s.clp.working) = true)
    (hst : cond (arrive ⟨0x04#8, tag, n :: v⟩ s) = none) :
    replies c s ⟨0x04#8, tag, n :: v⟩ .ok [] (after (arrive ⟨0x04#8, tag, n :: v⟩ s)
      (setWorking (Settings.write n.toNat v s.clp.working) (arrive ⟨0x04#8, tag, n :: v⟩ s))) := by
  rw [← arrive_working ⟨0x04#8, tag, n :: v⟩ s]
  refine replies_of_serve hc hr h hp (serveWriteIf_done _ ?_ hst)
  rwa [arrive_working, writeInRange_iff]

end Replies

/-- A write without a condition and without more to do. -/
theorem write_plain {c : Instr} {row : ReqRow} {s : State}
    (hc : exec c s = act (takeRequest row ⟨0x04#8, tag, n :: v⟩ (serveWriteIf noCondition justWrite)) s)
    (hr : rowOf ⟨0x04#8, tag, n :: v⟩ = row) (h : s.ready ⟨0x04#8, tag, n :: v⟩)
    (hp : precheck ⟨0x04#8, tag, n :: v⟩ = none) :
    let r := arrive ⟨0x04#8, tag, n :: v⟩ s
    let w := Settings.write n.toNat v s.clp.working
    let inRange := codeInRange n.toNat v = true ∧ itemInRange n.toNat w = true
    (¬inRange → replies c s ⟨0x04#8, tag, n :: v⟩ .badValue [] r) ∧
      (inRange → replies c s ⟨0x04#8, tag, n :: v⟩ .ok [] { r with clp := { r.clp with working := w } }) :=
  ⟨write_bad hc hr h hp, fun hw => write_done hc hr h hp hw rfl⟩

theorem rowOf_write (h1 : n ≠ 1#8) (h2 : n ≠ 2#8) (h14 : n ≠ 14#8) (h26 : n ≠ 26#8) (h27 : n ≠ 27#8) (h29 : n ≠ 29#8) :
    rowOf ⟨0x04#8, tag, n :: v⟩ = .configWrite := by
  have other {k : Nat} (hk : k < 256) (h : n ≠ BitVec.ofNat 8 k) : n.toNat ≠ k := fun e =>
    h (BitVec.eq_of_toNat_eq (e.trans (Nat.mod_eq_of_lt hk).symm))
  change (match n.toNat with
      | 1 => ReqRow.writeUnitIdentity
      | 2 => .writeSlotMap
      | 14 => .writeDbCurve
      | 26 => .writeTriggerEnable
      | 27 => .writeRecordChannels
      | 29 => .writeReportInterval
      | _ => .configWrite) = .configWrite
  split
  case h_1 e => exact absurd e (other (by decide) h1)
  case h_2 e => exact absurd e (other (by decide) h2)
  case h_3 e => exact absurd e (other (by decide) h14)
  case h_4 e => exact absurd e (other (by decide) h26)
  case h_5 e => exact absurd e (other (by decide) h27)
  case h_6 e => exact absurd e (other (by decide) h29)
  case h_7 => rfl

/-! ### The conditions (R13, R188) -/

section Conditions
variable (r : State)

theorem offlineOnly_none (h : r.csl.role = .offline) : offlineOnly r = none := if_pos h

theorem offlineOnly_some (h : r.csl.role ≠ .offline) : offlineOnly r = some .wrongRole := if_neg h

theorem slotMapState_free_iff : (r.ble.blend = .failsafe ∨ (r.ble.blend = .released ∧ r.stationary = true)) ↔
    r.ble.blend = .failsafe ∨ r.ble.blend = .released ∧ r.am.known = true ∧ r.am.vref < 5000 := by
  rw [stationary_iff]

theorem scheduleReport_due (before after : State) (h : before.clp.reportIn ≠ none) : scheduleReport before after = after := by
  have none : before.clp.reportIn.isNone = false := Option.isNone_eq_false_iff.mpr (Option.isSome_iff_ne_none.mpr h)
  rw [scheduleReport, none]
  rfl

theorem scheduleReport_off (before after : State) (h : after.clp.working.reportInterval = 0) :
    scheduleReport before after = after := by
  rw [scheduleReport, h, bne_self_eq_false, Bool.and_false]
  rfl

theorem scheduleReport_set (before after : State) (hb : before.clp.reportIn = none)
    (ha : after.clp.working.reportInterval ≠ 0) : scheduleReport before after =
      { after with clp := { after.clp with reportIn := some ((after.clp.working.reportInterval : Int) + 5) } } := by
  rw [scheduleReport, hb, bne_iff_ne.mpr ha]
  rfl

end Conditions

end Write

/-- Settles O56. -/
theorem configWrites : Obligations.ConfigWrites := by
  refine ⟨fun w => ?_, fun v a => ?_, fun tag n v s => ?_⟩
  · intro within
    refine ⟨?_, slotMap_inRange_iff w, dbCurve_inRange_iff w, decide_eq_true_iff, reportInterval_inRange_iff w, fun n hn => ?_⟩
    · have least (m k : Nat) : decide (m ≤ k) = true ↔ 0 ≤ m ∧ m ≤ k := by
        rw [decide_eq_true_iff]
        exact (and_iff_right (Nat.zero_le m)).symm
      simp only [List.forall_mem_cons, List.not_mem_nil, false_imp_iff, implies_true, and_true]
      exact ⟨decide_eq_true_iff, decide_eq_true_iff, decide_eq_true_iff, decide_eq_true_iff, decide_eq_true_iff,
        decide_eq_true_iff, decide_eq_true_iff, decide_eq_true_iff, decide_eq_true_iff, decide_eq_true_iff,
        decide_eq_true_iff, decide_eq_true_iff, decide_eq_true_iff, decide_eq_true_iff, decide_eq_true_iff,
        decide_eq_true_iff, least _ _, decide_eq_true_iff, least _ _⟩
    · fin_cases hn <;> exact iff_of_true rfl trivial
  · intro b two four
    refine ⟨fun n hn => ?_, fun n hn => ?_, ?_, ?_, fun hv => ?_, ?_⟩
    · fin_cases hn <;> exact decide_eq_true_iff
    · simp only [List.mem_cons, List.not_mem_nil, or_false, not_or] at hn
      unfold codeInRange
      split
      case h_4 => rfl
      all_goals omega
    · simp only [List.forall_mem_cons, List.not_mem_nil, false_imp_iff, implies_true, and_true]
      exact ⟨rfl, rfl, rfl, rfl, rfl, rfl, rfl, rfl, rfl, rfl, rfl, rfl, rfl, rfl, rfl, rfl, rfl, rfl, rfl, rfl, rfl, rfl,
        rfl, rfl, rfl, rfl⟩
    · intro w named below
      refine ⟨rfl, remap_length _ _ _, fun hmap hv c hc => ?_⟩
      have count : (namedChannels (rd24 v 0)).length = below 17 := rfl
      have room : (namedChannels (rd24 v 0)).length ≤ (v.drop 3).length := by
        rw [List.length_drop, count]
        omega
      have slot := remap_getD (namedChannels_sorted (rd24 v 0)) (hmap ▸ hc) room
      simp only [mem_namedChannels hc, namedChannels_below hc.le, rd8_drop] at slot
      exact slot
    · have points := curvePoints_eq 16 v hv
      exact congrArg (fun l => { a with dbCurve := l }) points
    · intro w named
      exact ⟨rfl, fun k hk => triggerEnable_bit a.triggerEnable (v.getD 0 0) (v.getD 1 0) hk⟩
  · intro f r w inRange done still plain ready hl h1 h29
    have hp := write_precheck hl h1 h29
    obtain ⟨q, form⟩ := arrive_form f s
    have kept {α : Type} (F : State → α) : F r = F { s with clp := { s.clp with queue := q } } := congrArg F form
    refine ⟨fun n1 n2 n14 n26 n27 n29 => ?_, ?_, ?_, ?_, ?_, ?_, ?_⟩
    · have row := rowOf_write (tag := tag) (v := v) n1 n2 n14 n26 n27 n29
      exact write_plain rfl row ready hp
    · rintro rfl
      exact write_plain rfl rfl ready hp
    · rintro rfl
      exact write_plain rfl rfl ready hp
    · rintro rfl
      exact write_plain rfl rfl ready hp
    · rintro rfl c
      have role : r.csl.role = s.csl.role := kept fun x => x.csl.role
      exact ⟨write_bad (cond := offlineOnly) (after := justWrite) rfl rfl ready hp,
        fun hw ho => write_refused rfl rfl ready hp hw (offlineOnly_some r (role.symm ▸ ho)),
        fun hw ho => write_done (cond := offlineOnly) (after := justWrite) rfl rfl ready hp hw (offlineOnly_none r (role.trans ho))⟩
    · rintro rfl c free
      have state : (r.ble.blend = .failsafe ∨ (r.ble.blend = .released ∧ r.stationary = true)) ↔ free :=
        (slotMapState_free_iff r).trans (iff_of_eq (kept fun x =>
          x.ble.blend = .failsafe ∨ x.ble.blend = .released ∧ x.am.known = true ∧ x.am.vref < 5000))
      exact ⟨write_bad (cond := slotMapState) (after := justWrite) rfl rfl ready hp,
        fun hw hf => write_refused rfl rfl ready hp hw (if_neg (mt state.mp hf)),
        fun hw hf => write_done (cond := slotMapState) (after := justWrite) rfl rfl ready hp hw (if_pos (state.mpr hf))⟩
    · rintro rfl c
      have report : r.clp.reportIn = s.clp.reportIn := kept fun x => x.clp.reportIn
      have wrote (hw : inRange) : replies c s f .ok [] (scheduleReport r done) :=
        write_done (cond := noCondition) (after := scheduleReport) rfl rfl ready hp hw rfl
      exact ⟨write_bad (cond := noCondition) (after := scheduleReport) rfl rfl ready hp,
        fun hw hn => scheduleReport_due r done (report.symm ▸ hn) ▸ wrote hw,
        fun hw _ h0 => scheduleReport_off r done h0 ▸ wrote hw,
        fun hw hn h0 => scheduleReport_set r done (report.trans hn) h0 ▸ wrote hw⟩

end Sys2Proof.Machine

/-! CONFIG_COMMIT (R190): the items two sets share, the list of a commit, the writes of the configuration area. -/
namespace Sys2Proof.Machine

/-! ## Items one by one -/

/-- The set with the items that `p` names from `a` and the others from `b`. -/
def Settings.merge (p : Nat → Bool) (a b : Settings) : Settings :=
  {
    unitIdentity := bif p 1 then a.unitIdentity else b.unitIdentity
    slotMap := bif p 2 then a.slotMap else b.slotMap
    statusCompare := bif p 3 then a.statusCompare else b.statusCompare
    statusMask := bif p 4 then a.statusMask else b.statusMask
    statusSense := bif p 5 then a.statusSense else b.statusSense
    pipeNominal := bif p 6 then a.pipeNominal else b.pipeNominal
    autoGain := bif p 7 then a.autoGain else b.autoGain
    dynHandleFull := bif p 8 then a.dynHandleFull else b.dynHandleFull
    airGain := bif p 9 then a.airGain else b.airGain
    serviceMax := bif p 10 then a.serviceMax else b.serviceMax
    emergPressure := bif p 11 then a.emergPressure else b.emergPressure
    airRate := bif p 12 then a.airRate else b.airRate
    dynRate := bif p 13 then a.dynRate else b.dynRate
    dbCurve := bif p 14 then a.dbCurve else b.dbCurve
    emergDynamic := bif p 15 then a.emergDynamic else b.emergDynamic
    slideAbs := bif p 16 then a.slideAbs else b.slideAbs
    slideRel := bif p 17 then a.slideRel else b.slideRel
    dumpLimit := bif p 18 then a.dumpLimit else b.dumpLimit
    reapplyHold := bif p 19 then a.reapplyHold else b.reapplyHold
    ceilingFactor := bif p 20 then a.ceilingFactor else b.ceilingFactor
    ceilingRise := bif p 21 then a.ceilingRise else b.ceilingRise
    ceilingFloor := bif p 22 then a.ceilingFloor else b.ceilingFloor
    refDecelLimit := bif p 23 then a.refDecelLimit else b.refDecelLimit
    preTrigger := bif p 24 then a.preTrigger else b.preTrigger
    postTrigger := bif p 25 then a.postTrigger else b.postTrigger
    triggerEnable := bif p 26 then a.triggerEnable else b.triggerEnable
    recordChannels := bif p 27 then a.recordChannels else b.recordChannels
    storeMode := bif p 28 then a.storeMode else b.storeMode
    reportInterval := bif p 29 then a.reportInterval else b.reportInterval
  }

section Items
variable (a b : Settings)

theorem copyItem_eq_merge (n : Nat) : Settings.copyItem n a b = Settings.merge (fun k => n == k) a b := by
  unfold Settings.copyItem
  split
  case h_30 => simp_all [Settings.merge, Bool.cond_eq_ite]
  all_goals rfl

theorem merge_merge_left (p : Nat → Bool) : Settings.merge p (Settings.merge p a b) a = a := by
  have pick {α : Type} (c : Bool) (x y : α) : (bif c then (bif c then x else y) else x) = x := by cases c <;> rfl
  simp only [Settings.merge, pick]

theorem merge_merge_right (p q : Nat → Bool) :
    Settings.merge q (Settings.merge p a b) b = Settings.merge (fun k => q k && p k) a b := by
  have pick {α : Type} (c d : Bool) (x y : α) : (bif d then (bif c then x else y) else y) = bif d && c then x else y := by
    cases d <;> rfl
  simp only [Settings.merge, pick]

theorem copyItem_same (n : Nat) : Settings.sameItem n (Settings.copyItem n a b) a = true := by
  rw [Settings.sameItem, decide_eq_true_iff, copyItem_eq_merge, copyItem_eq_merge, merge_merge_left]

theorem copyItem_other {n m : Nat} (h : m ≠ n) : Settings.sameItem m (Settings.copyItem n a b) b = true := by
  have apart : (fun k => m == k && n == k) = fun _ => false := by
    funext k
    rw [Bool.and_eq_false_iff, beq_eq_false_iff_ne, beq_eq_false_iff_ne]
    omega
  rw [Settings.sameItem, decide_eq_true_iff, copyItem_eq_merge, copyItem_eq_merge, merge_merge_right, apart]
  rfl

variable {a b}

/-- An item that copies one field is shared by two sets when the field is. -/
theorem sameItem_iff_field {α : Type} (n : Nat) (field : Settings → α) (put : α → Settings → Settings)
    (copy : Settings.copyItem n a b = put (field a) b := by rfl) (read : field (put (field a) b) = field a := by rfl)
    (keep : put (field b) b = b := by rfl) : Settings.sameItem n a b = true ↔ field a = field b := by
  rw [Settings.sameItem, decide_eq_true_iff, copy]
  exact ⟨fun h => by rw [← read, h], fun h => by rw [h, keep]⟩

end Items

/-! ## The list of a commit -/

theorem filterMap_if_eq_filter {α β : Type} (f : α → β) (p : α → Prop) [DecidablePred p] (q : β → Bool)
    (h : ∀ x, q (f x) = true ↔ p x) (l : List α) :
    l.filterMap (fun x => if p x then some (f x) else none) = (l.map f).filter q := by
  induction l with
  | nil => rfl
  | cons x rest ih =>
    by_cases hx : p x
    · rw [List.filterMap_cons, if_pos hx, ih, List.map_cons, List.filter_cons_of_pos ((h x).mpr hx)]
    · rw [List.filterMap_cons, if_neg hx, ih, List.map_cons, List.filter_cons_of_neg (mt (h x).mp hx)]

theorem commitList_eq (s : State) : s.commitList = (List.range 29).filterMap (fun k =>
    if s.clp.imageValid = false ∨ Settings.sameItem (k + 1) s.clp.working s.clp.image = false then some (k + 1) else none) := by
  refine (filterMap_if_eq_filter (· + 1) _ _ (fun k => ?_) _).symm
  rw [Bool.or_eq_true, Bool.not_eq_true', Bool.not_eq_true']

section Serve
variable (p : List Byte) (r : State)

theorem serveConfigCommit_busy (h : r.clp.commit ≠ none) : serveConfigCommit p r = .reply .busy [] r := by
  unfold serveConfigCommit
  split
  next => rfl
  next hn => exact absurd hn h

theorem serveConfigCommit_nothing (h : r.clp.commit = none) (hl : r.commitList = []) :
    serveConfigCommit p r = .reply .accepted [] (raise (.commitDone 0) r) := by
  simp only [serveConfigCommit, h, hl]

theorem serveConfigCommit_items (h : r.clp.commit = none) (hl : r.commitList ≠ []) : serveConfigCommit p r =
    .reply .accepted []
      { r with clp := { r.clp with commit := some ⟨r.clp.working, r.commitList, r.commitList.length, true⟩ } } := by
  unfold serveConfigCommit
  rw [h]
  dsimp only
  split
  next hn => exact absurd hn hl
  next => rfl

end Serve

/-! ## The writes -/

section Writes
variable (s : State) {k : Commit}

theorem configAreaWriteDone_item {n : Nat} (hp : s.store.port = some (.configItem n)) (hk : s.clp.commit = some k) :
    configAreaWriteDone s = configItemDone n k (portIdle s) := by
  simp only [configAreaWriteDone, hp, hk]

theorem configAreaWriteDone_check (hp : s.store.port = some .configCheck) (hk : s.clp.commit = some k) :
    configAreaWriteDone s = configCheckDone k (portIdle s) := by
  simp only [configAreaWriteDone, hp, hk]

end Writes

/-- Settles O57. -/
theorem commitRuns : Obligations.CommitRuns := by
  refine ⟨fun a b => ?_, fun tag s => ?_⟩
  · intro same
    refine ⟨?_, 
      sameItem_iff_field 2 (·.slotMap) (fun x s => { s with slotMap := x }),
      sameItem_iff_field 3 (·.statusCompare) (fun x s => { s with statusCompare := x }),
      sameItem_iff_field 4 (·.statusMask) (fun x s => { s with statusMask := x }),
      sameItem_iff_field 5 (·.statusSense) (fun x s => { s with statusSense := x }),
      sameItem_iff_field 14 (·.dbCurve) (fun x s => { s with dbCurve := x }),
      sameItem_iff_field 15 (·.emergDynamic) (fun x s => { s with emergDynamic := x }),
      sameItem_iff_field 26 (·.triggerEnable) (fun x s => { s with triggerEnable := x }),
      sameItem_iff_field 27 (·.recordChannels) (fun x s => { s with recordChannels := x }),
      sameItem_iff_field 28 (·.storeMode) (fun x s => { s with storeMode := x }),
      fun n m _ _ => ⟨copyItem_same a b n, fun h => copyItem_other a b h⟩⟩
    simp only [List.forall_mem_cons, List.not_mem_nil, false_imp_iff, implies_true, and_true]
    exact ⟨
      sameItem_iff_field 1 (·.unitIdentity) (fun x s => { s with unitIdentity := x }),
      sameItem_iff_field 6 (·.pipeNominal) (fun x s => { s with pipeNominal := x }),
      sameItem_iff_field 7 (·.autoGain) (fun x s => { s with autoGain := x }),
      sameItem_iff_field 8 (·.dynHandleFull) (fun x s => { s with dynHandleFull := x }),
      sameItem_iff_field 9 (·.airGain) (fun x s => { s with airGain := x }),
      sameItem_iff_field 10 (·.serviceMax) (fun x s => { s with serviceMax := x }),
      sameItem_iff_field 11 (·.emergPressure) (fun x s => { s with emergPressure := x }),
      sameItem_iff_field 12 (·.airRate) (fun x s => { s with airRate := x }),
      sameItem_iff_field 13 (·.dynRate) (fun x s => { s with dynRate := x }),
      sameItem_iff_field 16 (·.slideAbs) (fun x s => { s with slideAbs := x }),
      sameItem_iff_field 17 (·.slideRel) (fun x s => { s with slideRel := x }),
      sameItem_iff_field 18 (·.dumpLimit) (fun x s => { s with dumpLimit := x }),
      sameItem_iff_field 19 (·.reapplyHold) (fun x s => { s with reapplyHold := x }),
      sameItem_iff_field 20 (·.ceilingFactor) (fun x s => { s with ceilingFactor := x }),
      sameItem_iff_field 21 (·.ceilingRise) (fun x s => { s with ceilingRise := x }),
      sameItem_iff_field 22 (·.ceilingFloor) (fun x s => { s with ceilingFloor := x }),
      sameItem_iff_field 23 (·.refDecelLimit) (fun x s => { s with refDecelLimit := x }),
      sameItem_iff_field 24 (·.preTrigger) (fun x s => { s with preTrigger := x }),
      sameItem_iff_field 25 (·.postTrigger) (fun x s => { s with postTrigger := x }),
      sameItem_iff_field 29 (·.reportInterval) (fun x s => { s with reportInterval := x })⟩
  · intro f r differing
    obtain ⟨q, form⟩ := arrive_form f s
    have kept {α : Type} (F : State → α) : F r = F { s with clp := { s.clp with queue := q } } := congrArg F form
    have commit : r.clp.commit = s.clp.commit := kept fun x => x.clp.commit
    have working : r.clp.working = s.clp.working := kept fun x => x.clp.working
    have list : r.commitList = differing := (kept fun x => x.commitList).trans (commitList_eq s)
    refine ⟨fun ready => ⟨fun hk => ?_, fun hk hl => ?_, fun hk hl => ?_⟩, fun n k hp hport hk => ?_, fun k hp hport hk => ?_⟩
    · exact replies_of_serve rfl rfl ready rfl (serveConfigCommit_busy [] r (commit ▸ hk))
    · exact replies_of_serve rfl rfl ready rfl (serveConfigCommit_nothing [] r (commit.trans hk) (list.trans hl))
    · have served := serveConfigCommit_items [] r (commit.trans hk) (list ▸ hl)
      rw [list, working] at served
      exact replies_of_serve rfl rfl ready rfl served
    · exact effect_of_act_eq rfl hp (configAreaWriteDone_item s hport hk)
    · exact effect_of_act_eq rfl hp (configAreaWriteDone_check s hport hk)

end Sys2Proof.Machine

/-! RECORD_PROTECT and RECORD_ERASE with the ends of their store operations (R158 to R164). -/
namespace Sys2Proof.Machine

/-! ## The record of a number -/

section Find
variable (s : State) {n slot : Nat} {st : SlotState} {i : RecordInfo}

theorem holdsNumber_iff {o : Option RecordInfo} : (o.map (fun r => r.number) == some n) = true ↔ ∃ i, o = some i ∧ i.number = n := by
  rw [beq_iff_eq, Option.map_eq_some_iff]

theorem findRecord_some (h : s.findRecord n = some (slot, st, i)) :
    slot < 48 ∧ s.entry slot = ⟨st, some i⟩ ∧ i.number = n := by
  unfold State.findRecord at h
  split at h
  case h_1 => cases h
  case h_2 k hk =>
    obtain ⟨hn, hin, -⟩ := List.find?_range_eq_some.mp hk
    obtain ⟨j, hj, hjn⟩ := holdsNumber_iff.mp hn
    rw [hj, Option.map_some, Option.some_inj] at h
    obtain ⟨rfl, rfl, rfl⟩ : k = slot ∧ (s.entry k).state = st ∧ j = i := by simpa only [Prod.mk.injEq] using h
    exact ⟨List.mem_range.mp hin, by rw [← hj], hjn⟩

theorem findRecord_none : s.findRecord n = none ↔ ∀ slot < 48, ∀ i, (s.entry slot).record = some i → i.number ≠ n := by
  have slots : s.slotOf n = none ↔ ∀ slot < 48, ∀ i, (s.entry slot).record = some i → i.number ≠ n := by
    rw [State.slotOf, List.find?_eq_none]
    simp only [List.mem_range, holdsNumber_iff, not_exists, not_and, ne_eq]
  rw [← slots]
  unfold State.findRecord
  split
  next h => exact iff_of_true rfl h
  next k hk =>
    obtain ⟨hn, -, -⟩ := List.find?_range_eq_some.mp hk
    obtain ⟨j, hj, -⟩ := holdsNumber_iff.mp hn
    rw [hj, hk]
    exact iff_of_false (Option.some_ne_none _) (Option.some_ne_none _)

end Find

/-! ## RECORD_PROTECT (R159, R160) -/

section Protect
variable (p : List Byte) (r : State) {slot : Nat} {st : SlotState} {i : RecordInfo}

theorem serveRecordProtect_unknown (h : r.findRecord (rd32 p 0) = none) :
    serveRecordProtect p r = .reply .noRecord [] r := by
  simp only [serveRecordProtect, h, refuse]

theorem serveRecordProtect_closed (h : r.findRecord (rd32 p 0) = some (slot, .closed, i)) : serveRecordProtect p r =
    if i.isProtected then accept r else .hold (askDir slot .protect (setProtected slot true r)) := by
  simp only [serveRecordProtect, h]

theorem serveRecordProtect_open (h : r.findRecord (rd32 p 0) = some (slot, st, i)) (hst : st = .erasing ∨ st = .capturing) :
    serveRecordProtect p r = .reply .ok [] (setProtected slot true r) := by
  simp only [serveRecordProtect, h]
  obtain rfl | rfl := hst <;> rfl

theorem serveRecordProtect_closing (h : r.findRecord (rd32 p 0) = some (slot, .closing, i)) :
    serveRecordProtect p r = .reply .wrongState [] r := by
  simp only [serveRecordProtect, h, refuse]

theorem serveRecordUnprotect_unknown (h : r.findRecord (rd32 p 0) = none) :
    serveRecordUnprotect p r = .reply .noRecord [] r := by
  simp only [serveRecordUnprotect, h, refuse]

theorem serveRecordUnprotect_closed (h : r.findRecord (rd32 p 0) = some (slot, .closed, i)) :
    serveRecordUnprotect p r = if i.isProtected then .hold (askDir slot .unprotect r) else accept r := by
  simp only [serveRecordUnprotect, h]

theorem serveRecordUnprotect_open (h : r.findRecord (rd32 p 0) = some (slot, st, i)) (hst : st ≠ .closed) :
    serveRecordUnprotect p r = .reply .wrongState [] r := by
  simp only [serveRecordUnprotect, h]
  cases st
  case closed => exact absurd rfl hst
  all_goals rfl

end Protect

/-! ## RECORD_ERASE (R161) -/

section Erase

theorem recordGone_hostErase (number : Nat) (n : StreamNo) (s : State) :
    (recordGone number n s).store.hostErase = s.store.hostErase := by
  unfold recordGone decideStream completeStream
  dsimp only
  split
  · split
    · split
      · rfl
      · exact (congrArg Store.hostErase (raise_store _ _)).trans rfl
    · rfl
  · rfl

theorem scrubStart_hostErase (fuel : Nat) (s : State) : (scrubStart fuel s).store.hostErase = s.store.hostErase := by
  induction fuel generalizing s with
  | zero => rfl
  | succ fuel ih =>
    unfold scrubStart
    dsimp only
    split
    · rfl
    · split
      · split
        · exact ih _
        · rfl
      · rfl

theorem scrubAbandon_hostErase (slot : Nat) (s : State) : (scrubAbandon slot s).store.hostErase = s.store.hostErase := by
  unfold scrubAbandon scrubEnd
  dsimp only
  split
  · rfl
  · split
    · split
      · exact scrubStart_hostErase 2 _
      · rfl
    · rfl

theorem slotGone_hostErase (slot number : Nat) (s : State) : (slotGone slot number s).store.hostErase = s.store.hostErase := by
  unfold slotGone
  dsimp only
  rw [scrubAbandon_hostErase]
  exact (recordGone_hostErase number .s1 _).trans (recordGone_hostErase number .s0 s)

/-- The state in which the slot of an accepted erase is ERASING and its erase in hand. -/
def State.erasing (slot number : Nat) (s : State) : State :=
  { s with store := { s.store with dir := s.store.dir.set slot ⟨.erasing, none⟩, hostErase := some ⟨slot, number, true⟩ } }

section Serve
variable (p : List Byte) (r : State) {slot : Nat} {st : SlotState} {i : RecordInfo}

theorem serveRecordErase_unknown (h : r.findRecord (rd32 p 0) = none) : serveRecordErase p r = .reply .noRecord [] r := by
  simp only [serveRecordErase, h, refuse]

theorem serveRecordErase_found (h : r.findRecord (rd32 p 0) = some (slot, st, i)) : serveRecordErase p r =
    if r.store.hostErase.isSome then refuse .busy r
    else if st ≠ .closed then refuse .wrongState r
    else if i.isProtected then refuse .isProtected r
    else .reply .accepted [] (slotGone slot (rd32 p 0) (r.erasing slot (rd32 p 0))) := by
  simp only [serveRecordErase, h]
  rfl

end Serve

/-- What an accepted erase leaves. -/
theorem erasing_gone {s : State} {slot : Nat} (number : Nat) (h : (s.entry slot).state = .closed) :
    SlotGone slot number (s.erasing slot number) (slotGone slot number (s.erasing slot number)) := by
  refine slotGone_spec slot number _ ?_
  have entry : (s.erasing slot number).entry slot = ⟨.erasing, none⟩ :=
    entry_setEntry_self s ⟨.erasing, none⟩ (lt_of_entry_closed h)
  rw [entry]
  exact SlotState.noConfusion

end Erase

/-! ## The ends of the store operations -/

section Completions
variable {s : State} {slot : Nat} {i : RecordInfo}

/-- A CLOSED entry stands in the memory as written. -/
def State.closedWritten (slot : Nat) (i : RecordInfo) (s : State) : State := State.setStored slot (.closed i) (portIdle s)

theorem answerHeld_eq {t : State} {q : ReqFrame} {rest : List ReqFrame} (hh : t.clp.held = true)
    (hq : t.clp.queue = q :: rest) : answerHeld t = answer q .ok [] t := by
  simp only [answerHeld, hh, hq]

theorem protectWriteDone_held {q : ReqFrame} {rest : List ReqFrame} (h : s.store.port = some (.dir ⟨slot, .protect⟩ i))
    (hh : s.clp.held = true) (hq : s.clp.queue = q :: rest) :
    protectWriteDone s = answer q .ok [] (s.closedWritten slot i) := by
  simp only [protectWriteDone, h]
  exact answerHeld_eq hh hq

theorem unprotectWriteDone_held {q : ReqFrame} {rest : List ReqFrame} (h : s.store.port = some (.dir ⟨slot, .unprotect⟩ i))
    (hh : s.clp.held = true) (hq : s.clp.queue = q :: rest) :
    unprotectWriteDone s = answer q .ok []
      ((s.closedWritten slot i).updRecord slot (fun i => { i with isProtected := false })) := by
  simp only [unprotectWriteDone, h]
  exact answerHeld_eq hh hq

theorem damagedWriteDone_eq (h : s.store.port = some (.dir ⟨slot, .damaged⟩ i)) :
    damagedWriteDone s = s.closedWritten slot i := by
  simp only [damagedWriteDone, h]
  rfl

theorem hostEraseDone_eq {h : HostErase} (hp : s.store.port = some (.hostErase slot)) (he : s.store.hostErase = some h) :
    hostEraseDone s = raise (.eraseDone h.slot h.number) { (eraseSlot slot (portIdle s)).setEntry slot ⟨.free, none⟩ with
      store := { ((eraseSlot slot (portIdle s)).setEntry slot ⟨.free, none⟩).store with hostErase := none } } := by
  have held : ((eraseSlot slot (portIdle s)).setEntry slot ⟨.free, none⟩).store.hostErase = some h := he
  simp only [hostEraseDone, hp, held]

end Completions

/-- Settles O58. -/
theorem recordRequests : Obligations.RecordRequests := by
  refine ⟨fun n s => ⟨fun slot st i h => findRecord_some s h, findRecord_none s⟩, fun tag a b c d s => ?_⟩
  intro n pf uf ef mark ask
  have found (f : ReqFrame) : (arrive f s).findRecord n = s.findRecord n := by
    obtain ⟨q, form⟩ := arrive_form f s
    rw [form]
    rfl
  refine ⟨fun ready => ?_, fun ready => ?_, fun ready => ?_, fun slot i q rest hp hh hq => ?_, fun slot i hp hport => ?_,
    fun slot h hp hport he => ?_⟩
  · intro p
    refine ⟨fun h => ?_, fun slot st i h => ⟨?_, ?_, fun hst => ?_, ?_⟩⟩
    · exact replies_of_serve rfl rfl ready rfl (serveRecordProtect_unknown pf.payload _ ((found pf).trans h))
    · rintro rfl hi
      have served := serveRecordProtect_closed pf.payload _ ((found pf).trans h)
      exact holds_of_serve rfl rfl ready rfl (served.trans (if_neg (Bool.eq_false_iff.mp hi)))
    · rintro rfl hi
      have served := serveRecordProtect_closed pf.payload _ ((found pf).trans h)
      exact replies_of_serve rfl rfl ready rfl (served.trans (if_pos hi))
    · exact replies_of_serve rfl rfl ready rfl (serveRecordProtect_open pf.payload _ ((found pf).trans h) hst)
    · rintro rfl
      exact replies_of_serve rfl rfl ready rfl (serveRecordProtect_closing pf.payload _ ((found pf).trans h))
  · intro p
    refine ⟨fun h => ?_, fun slot st i h => ⟨?_, ?_, fun hst => ?_⟩⟩
    · exact replies_of_serve rfl rfl ready rfl (serveRecordUnprotect_unknown uf.payload _ ((found uf).trans h))
    · rintro rfl hi
      have served := serveRecordUnprotect_closed uf.payload _ ((found uf).trans h)
      exact holds_of_serve rfl rfl ready rfl (served.trans (if_pos hi))
    · rintro rfl hi
      have served := serveRecordUnprotect_closed uf.payload _ ((found uf).trans h)
      exact replies_of_serve rfl rfl ready rfl (served.trans (if_neg (Bool.eq_false_iff.mp hi)))
    · exact replies_of_serve rfl rfl ready rfl (serveRecordUnprotect_open uf.payload _ ((found uf).trans h) hst)
  · intro e
    obtain ⟨q, form⟩ := arrive_form ef s
    have kept {α : Type} (F : State → α) : F (arrive ef s) = F { s with clp := { s.clp with queue := q } } :=
      congrArg F form
    have store : (arrive ef s).store = s.store := kept fun x => x.store
    have free (he : s.store.hostErase = none) : ¬(arrive ef s).store.hostErase.isSome = true := by
      rw [store, he]
      exact Bool.false_ne_true
    refine ⟨fun h => ?_, fun slot st i h => ⟨fun he => ?_, fun he hst => ?_, fun he hst hi => ?_, fun he hst hi => ?_⟩⟩
    · exact replies_of_serve rfl rfl ready rfl (serveRecordErase_unknown ef.payload _ ((found ef).trans h))
    all_goals have served := serveRecordErase_found ef.payload _ ((found ef).trans h)
    · exact replies_of_serve rfl rfl ready rfl
        (served.trans (if_pos (store.symm ▸ Option.isSome_iff_ne_none.mpr he)))
    · exact replies_of_serve rfl rfl ready rfl (served.trans ((if_neg (free he)).trans (if_pos hst)))
    · exact replies_of_serve rfl rfl ready rfl
        (served.trans ((if_neg (free he)).trans ((if_neg (not_not_intro hst)).trans (if_pos hi))))
    · intro r gone u
      have accepted := served.trans ((if_neg (free he)).trans ((if_neg (not_not_intro hst)).trans
        (if_neg (Bool.eq_false_iff.mp hi))))
      have closed : (r.entry slot).state = .closed := by
        obtain ⟨-, entry, -⟩ := findRecord_some r ((found ef).trans h)
        rw [entry, hst]
      have after := erasing_gone n closed
      obtain ⟨ho, -, hcap⟩ := slotGone_frame (r.erasing slot n) slot n
      have rdu : r.rdu = s.rdu := kept fun x => x.rdu
      have line (m : StreamNo) : r.streamOnLine m = s.streamOnLine m := kept fun x => x.streamOnLine m
      refine ⟨slotGone slot n (r.erasing slot n), replies_of_serve rfl rfl ready rfl accepted, ?_, slotGone_hostErase _ _ _,
        (outside_nv _ _ ho).trans (kept fun x => x.nv), hcap.trans (kept fun x => x.cap), ?_, ?_, fun m => ?_, after.newCheck,
        fun k hk => after.keptCheck k ((congrArg (fun x => x.check) store).trans hk)⟩
      · rw [after.dir, ← store]
        rfl
      · rw [after.dirQueue, ← store]
        rfl
      · have start : r.erasing slot n = { r with store := { s.store with
            dir := s.store.dir.set slot ⟨.erasing, none⟩, hostErase := some ⟨slot, n, true⟩ } } := by
          rw [State.erasing, store]
        rw [start]
        rfl
      · intro d x
        obtain ⟨ends, stays⟩ := after.streams m
        have stream : (r.erasing slot n).rdu.get m = d := congrArg (fun p => PerStream.get p m) rdu
        have onLine : (r.erasing slot n).streamOnLine m = s.streamOnLine m := line m
        rw [stream, onLine] at ends
        rw [stream] at stays
        exact ⟨ends, stays⟩
  · exact ⟨fun hport => effect_of_act_eq rfl hp (protectWriteDone_held hport hh hq),
      fun hport => effect_of_act_eq rfl hp (unprotectWriteDone_held hport hh hq)⟩
  · exact effect_of_act_eq rfl hp (damagedWriteDone_eq hport)
  · exact effect_of_act_eq rfl hp (hostEraseDone_eq hport he)

end Sys2Proof.Machine

/-! The scrubber (R162 to R164): the slot a check takes, its start and its end, the reads, a check abandoned. -/
namespace Sys2Proof.Machine

/-! ## The slot of a check (R163) -/

section Slot
variable (s : State)

theorem scrubSlot_some (slot : Nat) : s.scrubSlot = some slot ↔ ∃ k < 48, slot = (s.store.scrubIndex + k) % 48 ∧
    (s.entry slot).state = .closed ∧ ∀ j < k, (s.entry ((s.store.scrubIndex + j) % 48)).state ≠ .closed := by
  rw [State.scrubSlot, List.find?_map, Option.map_eq_some_iff]
  simp only [List.find?_range_eq_some, Function.comp_apply, beq_iff_eq, List.mem_range, Bool.not_eq_true',
    beq_eq_false_iff_ne]
  constructor
  · rintro ⟨k, ⟨hk, hlt, hj⟩, rfl⟩
    exact ⟨k, hlt, rfl, hk, hj⟩
  · rintro ⟨k, hlt, rfl, hk, hj⟩
    exact ⟨k, ⟨hk, hlt, hj⟩, rfl⟩

theorem scrubSlot_none : s.scrubSlot = none ↔ ∀ j < 48, (s.entry j).state ≠ .closed := by
  rw [State.scrubSlot, List.find?_eq_none]
  simp only [List.mem_map, List.mem_range, beq_iff_eq, forall_exists_index, and_imp]
  constructor
  · intro h j hj
    exact h j ((j + (48 - s.store.scrubIndex % 48)) % 48) (by omega) (by omega)
  · rintro h _ k - rfl
    exact h _ (Nat.mod_lt _ (by decide))

end Slot

/-! ## The start and the end of a check (R162, R163) -/

section Check
variable (s : State) {next slot : Nat} {j : RecordInfo}

/-- A check of the record `j` in slot `next` starts; one of 0 blocks completes at the start. -/
def State.checkStarts (next : Nat) (j : RecordInfo) (u : State) : State :=
  if j.blocks = 0 then { u with store := { u.store with scrubIndex := (next + 1) % 48 } }
  else { u with store := { u.store with scrubIndex := next, check := some ⟨next, 0, true⟩ } }

/-- No check runs, and no request is latched. -/
def State.checkEnded (s : State) : State := { s with store := { s.store with check := none, scrubLatch := false } }

theorem scrubStart_none (fuel : Nat) (h : s.scrubSlot = none) : scrubStart fuel s = s := by
  cases fuel with
  | zero => rfl
  | succ fuel => simp only [scrubStart, h]

theorem scrubStart_some (fuel : Nat) (h : s.scrubSlot = some next) (hj : (s.entry next).record = some j)
    (hl : j.blocks = 0 → s.store.scrubLatch = false) : scrubStart (fuel + 1) s = s.checkStarts next j := by
  simp only [scrubStart, h, hj, Option.map_some, Option.getD_some]
  unfold State.checkStarts
  split
  next empty => exact if_neg (Bool.eq_false_iff.mp (hl empty))
  next => rfl

theorem scrubEnd_unlatched (h : s.store.scrubLatch = false) : scrubEnd s = s.checkEnded := by
  refine (if_neg (Bool.eq_false_iff.mp h)).trans ?_
  rw [State.checkEnded, ← h]

theorem scrubEnd_latched (h : s.store.scrubLatch = true) : scrubEnd s = scrubStart 2 s.checkEnded := if_pos h

/-- The three ends of a check. -/
theorem scrubEnd_cases {latch : Bool} (hl : s.store.scrubLatch = latch) : (latch = false → scrubEnd s = s.checkEnded) ∧
    (latch = true → s.checkEnded.scrubSlot = none → scrubEnd s = s.checkEnded) ∧
    (∀ next j, latch = true → s.checkEnded.scrubSlot = some next → (s.checkEnded.entry next).record = some j →
      scrubEnd s = s.checkEnded.checkStarts next j) :=
  ⟨fun h => scrubEnd_unlatched s (hl.trans h),
    fun h hn => (scrubEnd_latched s (hl.trans h)).trans (scrubStart_none _ 2 hn),
    fun _ _ h hn hj => (scrubEnd_latched s (hl.trans h)).trans (scrubStart_some _ 1 hn hj fun _ => rfl)⟩

end Check

/-! ## The request (R162) -/

section Request
variable {s : State} {next : Nat}

/-- The counter of the requests, one request less. -/
def State.scrubTaken (s : State) : State := { s with store := { s.store with scrubTicks := s.store.scrubTicks - 400 } }

theorem scrubTaken_scrubSlot : s.scrubTaken.scrubSlot = s.scrubSlot := by
  simp only [State.scrubSlot, State.entry, State.scrubTaken]

theorem scrubTaken_entry (slot : Nat) : s.scrubTaken.entry slot = s.entry slot := by
  simp only [State.entry, State.scrubTaken]

theorem scrubTaken_latch : s.scrubTaken.store.scrubLatch = s.store.scrubLatch := by
  simp only [State.scrubTaken]

theorem checkStarts_taken_blocks {j : RecordInfo} (h : j.blocks ≠ 0) : s.scrubTaken.checkStarts next j =
    { s with store := { s.store with scrubTicks := s.store.scrubTicks - 400, scrubIndex := next,
                                     check := some ⟨next, 0, true⟩ } } := by
  simp only [State.checkStarts, if_neg h, State.scrubTaken]

theorem checkStarts_taken_empty {j : RecordInfo} (h : j.blocks = 0) : s.scrubTaken.checkStarts next j =
    { s with store := { s.store with scrubTicks := s.store.scrubTicks - 400, scrubIndex := (next + 1) % 48 } } := by
  simp only [State.checkStarts, if_pos h, State.scrubTaken]

theorem scrubRequest_early (h : s.store.scrubTicks < 400) : scrubRequest s = s :=
  if_neg (by rw [State.scrubDue, decide_eq_true_iff]; omega)

theorem scrubRequest_free (h : 400 ≤ s.store.scrubTicks) (hc : s.store.check = none) :
    scrubRequest s = scrubStart 1 s.scrubTaken := by
  refine (if_pos (decide_eq_true h)).trans ?_
  dsimp only
  split
  next => rfl
  next k hk => exact absurd (hk.symm.trans hc) (Option.some_ne_none k)

theorem scrubRequest_latched {k : ScrubCheck} (h : 400 ≤ s.store.scrubTicks) (hc : s.store.check = some k) :
    scrubRequest s = { s with store := { s.store with scrubTicks := s.store.scrubTicks - 400, scrubLatch := true } } := by
  refine (if_pos (decide_eq_true h)).trans ?_
  simp only [hc]

end Request

/-! ## The reads (R163) -/

section Reads
variable (s : State) {slot page : Nat} {i : RecordInfo}

theorem markDamaged_eq (h : (s.entry slot).record = some i) : markDamaged slot page i s =
    if i.damaged then s
    else raise (.recordDamaged i.number slot page) { s with store := { s.store with
      dir := s.store.dir.set slot { s.entry slot with record := some { i with damaged := true } }
      dirQueue := s.store.dirQueue ++ [⟨slot, .damaged⟩] } } := by
  simp only [markDamaged, State.updRecord, h, Option.map_some]
  rfl

/-- What a read makes of the record. -/
def State.scrubbed (r : ReadResult) (slot page : Nat) (i : RecordInfo) (s : State) : State :=
  if ReadResult.isBad r then markDamaged slot page i s else s

theorem scrubbed_latch (r : ReadResult) : (s.scrubbed r slot page i).store.scrubLatch = s.store.scrubLatch := by
  unfold State.scrubbed markDamaged
  split
  · split
    · rfl
    · exact (congrArg Store.scrubLatch (raise_store _ _)).trans rfl
  · rfl

theorem scrubPageReadDone_unused (h : s.store.port = some (.scrubRead slot page false)) (r : ReadResult) :
    scrubPageReadDone r s = portIdle s := by
  simp only [scrubPageReadDone, h]

theorem scrubPageReadDone_used (h : s.store.port = some (.scrubRead slot page true)) (hi : (s.entry slot).record = some i)
    (r : ReadResult) : scrubPageReadDone r s = scrubOn slot page i.blocks ((portIdle s).scrubbed r slot page i) := by
  have record : ((portIdle s).entry slot).record = some i := hi
  simp only [scrubPageReadDone, h, record]
  rfl

end Reads

/-! ## A check abandoned (R164) -/

section Abandon
variable (slot : Nat) (s : State)

theorem scrubAbandon_idle (h : s.store.check = none) : scrubAbandon slot s = s := by
  simp only [scrubAbandon, h]

theorem scrubAbandon_other {k : ScrubCheck} (h : s.store.check = some k) (hk : k.slot ≠ slot) : scrubAbandon slot s = s := by
  simp only [scrubAbandon, h, if_neg hk]

theorem scrubAbandon_own {k : ScrubCheck} (h : s.store.check = some k) (hk : k.slot = slot) : scrubAbandon slot s =
    scrubEnd { s with store := { s.store with port := s.store.port.map dropScrubRead } } := by
  simp only [scrubAbandon, h, if_pos hk]

theorem dropScrubRead_eq : dropScrubRead = fun op => match op with
    | .scrubRead x page _ => .scrubRead x page false
    | other => other := by
  funext op
  cases op <;> rfl

end Abandon

/-- Settles O60. -/
theorem scrubberRuns : Obligations.ScrubberRuns := by
  unfold Obligations.ScrubberRuns
  intro starts
  refine ⟨fun s hp => ?_, scrubAbandon_idle, fun slot s => ⟨scrubSlot_some s slot, scrubSlot_none s⟩, fun slot k s hk => ?_⟩
  · intro mark reads
    refine ⟨fun h => effect_of_act_eq rfl hp (scrubRequest_early h),
      fun k h hc => effect_of_act_eq rfl hp (scrubRequest_latched h hc),
      fun slot i h hc hs hi => ⟨fun hb => ?_, fun hb hl => ?_⟩, fun h hc hs => ?_,
      fun slot page r h => effect_of_act_eq rfl hp (scrubPageReadDone_unused s h r), fun slot page i r h hi => ?_⟩
    · have record := (congrArg DirEntry.record (scrubTaken_entry slot)).trans hi
      have started := scrubStart_some s.scrubTaken 0 (scrubTaken_scrubSlot.trans hs) record fun h0 => absurd h0 hb
      exact effect_of_act_eq rfl hp ((scrubRequest_free h hc).trans (started.trans (checkStarts_taken_blocks hb)))
    · have record := (congrArg DirEntry.record (scrubTaken_entry slot)).trans hi
      have started := scrubStart_some s.scrubTaken 0 (scrubTaken_scrubSlot.trans hs) record fun _ => scrubTaken_latch.trans hl
      exact effect_of_act_eq rfl hp ((scrubRequest_free h hc).trans (started.trans (checkStarts_taken_empty hb)))
    · have none := scrubStart_none s.scrubTaken 1 (scrubTaken_scrubSlot.trans hs)
      exact effect_of_act_eq rfl hp ((scrubRequest_free h hc).trans none)
    · intro t u
      have read : (portIdle s).scrubbed r slot page i = t := by
        cases r
        case good => rfl
        case bad bs => exact markDamaged_eq (portIdle s) hi
      have done := scrubPageReadDone_used s h hi r
      rw [read] at done
      refine ⟨fun hn => effect_of_act_eq rfl hp (done.trans (if_pos hn)), fun hn => ?_⟩
      have past := done.trans (if_neg (Nat.not_lt.mpr hn))
      have latch : t.store.scrubLatch = s.store.scrubLatch := read ▸ scrubbed_latch (portIdle s) r
      obtain ⟨off, none, again⟩ :=
        scrubEnd_cases { t with store := { t.store with scrubIndex := (slot + 1) % 48 } } latch
      exact ⟨fun hl => effect_of_act_eq rfl hp (past.trans (off hl)),
        fun hl hs => effect_of_act_eq rfl hp (past.trans (none hl hs)),
        fun next j hl hs hj => effect_of_act_eq rfl hp (past.trans (again next j hl hs hj))⟩
  · intro u
    refine ⟨scrubAbandon_other slot s hk, fun hs => ?_⟩
    have ended := scrubAbandon_own slot s hk hs
    rw [dropScrubRead_eq] at ended
    obtain ⟨off, none, again⟩ := scrubEnd_cases { s with store := { s.store with
      port := s.store.port.map (fun op => match op with
        | .scrubRead x page _ => .scrubRead x page false
        | other => other) } } rfl
    exact ⟨fun hl => ended.trans (off hl), fun hl hn => ended.trans (none hl hn),
      fun next j hl hn hj => ended.trans (again next j hl hn hj)⟩

end Sys2Proof.Machine

/-! The readout streams (R167 to R175): the requests, the page read, the end of a frame, a completion decided. -/
namespace Sys2Proof.Machine

/-! ## Naming a stream -/

theorem streamOf_code (n : StreamNo) : streamOf (BitVec.ofNat 8 n.code).toNat = n := by cases n <;> rfl

theorem byte_eq_one (b : Byte) : (b.toNat == 1) = (b == 1#8) := by
  rw [Bool.eq_iff_iff, beq_iff_eq, beq_iff_eq]
  exact ⟨fun h => BitVec.eq_of_toNat_eq h, fun h => congrArg BitVec.toNat h⟩

theorem PerStream.set_set {α : Type} (p : PerStream α) (n : StreamNo) (x y : α) : (p.set n x).set n y = p.set n y := by
  cases n <;> rfl

/-! ## STREAM_OPEN (R168) -/

section Open
variable {d : Stream} {found : Option (Nat × SlotState × RecordInfo)} {first last slot : Nat} {st : SlotState} {i : RecordInfo}

theorem streamOpenTest_running (h : d.state = .running) : streamOpenTest d found first last = .error .busy := if_pos h

theorem streamOpenTest_complete (h : d.state = .complete) : streamOpenTest d found first last = .error .notAcked := by
  simp only [streamOpenTest, h, reduceCtorEq, if_false, if_true]

theorem streamOpenTest_unknown (h : d.state = .idle) : streamOpenTest d none first last = .error .noRecord := by
  simp only [streamOpenTest, h, reduceCtorEq, if_false]

theorem streamOpenTest_found (h : d.state = .idle) : streamOpenTest d (some (slot, st, i)) first last =
    if st ≠ .closed then .error .wrongState
    else if first ≤ last ∧ last < i.blocks then .ok i
    else .error .badValue := by
  simp only [streamOpenTest, h, reduceCtorEq, if_false]

variable {p : List Byte} {r : State} {n : StreamNo}

theorem serveStreamOpen_badValue (h : 1 < rd8 p 9 ∨ 1 < rd8 p 10) : serveStreamOpen p r = .reply .badValue [] r := if_pos h

theorem serveStreamOpen_refused (hn : streamOf (rd8 p 0) = n) (h : ¬(1 < rd8 p 9 ∨ 1 < rd8 p 10)) {e : ReplyStatus}
    (ht : streamOpenTest (r.rdu.get n) (r.findRecord (rd32 p 1)) (rd16 p 5) (rd16 p 7) = .error e) :
    serveStreamOpen p r = .reply e [] r := by
  subst hn
  refine (if_neg h).trans ?_
  rw [ht]
  rfl

theorem serveStreamOpen_opened (hn : streamOf (rd8 p 0) = n) (h : ¬(1 < rd8 p 9 ∨ 1 < rd8 p 10))
    (ht : streamOpenTest (r.rdu.get n) (r.findRecord (rd32 p 1)) (rd16 p 5) (rd16 p 7) = .ok i) :
    serveStreamOpen p r =
      .reply .ok [] (r.setStream n (openedStream i (rd16 p 5) (rd16 p 7) (rd8 p 9 == 1) (rd8 p 10 == 1))) := by
  subst hn
  refine (if_neg h).trans ?_
  rw [ht]
  rfl

end Open

/-! ## STREAM_ACK and STREAM_ABORT (R174, R175) -/

section Requests
variable {p : List Byte} {r : State} {n : StreamNo}

theorem serveStreamAck_complete (hn : streamOf (rd8 p 0) = n) (h : (r.rdu.get n).state = .complete) :
    serveStreamAck p r = .reply .ok (r.rdu.get n).ackBytes (r.setStream n Stream.boot) := by
  subst hn
  exact if_pos h

theorem serveStreamAck_other (hn : streamOf (rd8 p 0) = n) (h : (r.rdu.get n).state ≠ .complete) :
    serveStreamAck p r = .reply .wrongState [] r := by
  subst hn
  exact if_neg h

theorem streamRunning_iff : r.streamRunning n = true ↔ (r.rdu.get n).state = .running := beq_iff_eq

theorem serveStreamAbort_one (h2 : rd8 p 0 ≠ 2) (hn : streamOf (rd8 p 0) = n) (h : (r.rdu.get n).state = .running) :
    serveStreamAbort p r = .reply .ok [] (decideStream n .aborted r) := by
  subst hn
  exact (if_neg h2).trans (if_pos (streamRunning_iff.mpr h))

theorem serveStreamAbort_one_refused (h2 : rd8 p 0 ≠ 2) (hn : streamOf (rd8 p 0) = n) (h : (r.rdu.get n).state ≠ .running) :
    serveStreamAbort p r = .reply .wrongState [] r := by
  subst hn
  exact (if_neg h2).trans (if_neg (streamRunning_iff.not.mpr h))

theorem anyRunning_iff : (r.streamRunning .s0 || r.streamRunning .s1) = true ↔
    ¬((r.rdu.get .s0).state ≠ .running ∧ (r.rdu.get .s1).state ≠ .running) := by
  rw [Bool.or_eq_true, streamRunning_iff, streamRunning_iff, not_and_or, not_not, not_not]

theorem serveStreamAbort_both (h2 : rd8 p 0 = 2)
    (h : ¬((r.rdu.get .s0).state ≠ .running ∧ (r.rdu.get .s1).state ≠ .running)) :
    serveStreamAbort p r = .reply .ok [] (decideStream .s1 .aborted (decideStream .s0 .aborted r)) :=
  (if_pos h2).trans (if_pos (anyRunning_iff.mpr h))

theorem serveStreamAbort_both_refused (h2 : rd8 p 0 = 2)
    (h : (r.rdu.get .s0).state ≠ .running ∧ (r.rdu.get .s1).state ≠ .running) :
    serveStreamAbort p r = .reply .wrongState [] r :=
  (if_pos h2).trans (if_neg (anyRunning_iff.not.mpr (not_not_intro h)))

end Requests

/-! ## The page read (R169 to R171) -/

section PageRead
variable {s : State} {n : StreamNo} {slot page : Nat}

theorem streamPageReadDone_used (h : s.store.port = some (.streamRead n slot page true)) (hr : (s.rdu.get n).state = .running)
    (r : ReadResult) : streamPageReadDone n r s = (portIdle s).setStream n { s.rdu.get n with
      buffer := some ((s.rdu.get n).frame n page (asRead (s.maskOf slot) (s.pageBlocks slot page) r)
        (match r with
        | .good => false
        | .bad _ => true)) } := by
  unfold streamPageReadDone
  rw [h]
  dsimp only
  rw [if_pos rfl, if_pos ⟨rfl, hr⟩]
  rfl

theorem streamPageReadDone_unused (h : s.store.port = some (.streamRead n slot page false)) (r : ReadResult) :
    streamPageReadDone n r s = portIdle s := by
  unfold streamPageReadDone
  rw [h]
  dsimp only
  rw [if_pos rfl, if_neg (fun used => Bool.false_ne_true used.1)]
  rfl

end PageRead

/-! ## A completion (R172 to R174) -/

section Complete
variable {s : State} {n : StreamNo} (c : Completion)

theorem streamOnLine_iff : s.streamOnLine n = true ↔ ∃ x, s.clp.tx = some (.stream x) ∧ x.stream = n := by
  unfold State.streamOnLine
  split
  next f hf =>
    rw [hf, beq_iff_eq]
    exact ⟨fun h => ⟨f, rfl, h⟩, fun ⟨x, hx, h⟩ => by cases hx; exact h⟩
  next other => exact iff_of_false Bool.false_ne_true fun ⟨x, hx, _⟩ => other x hx

theorem dropStreamRead_eq (n : StreamNo) : dropStreamRead n = fun op => match op with
    | .streamRead m slot page _ => if m = n then .streamRead m slot page false else op
    | other => other := by
  funext op
  cases op
  case streamRead m slot page used =>
    by_cases h : m = n
    · simp [dropStreamRead, h]
    · simp [dropStreamRead, h]
  all_goals rfl

/-- Nothing reads for a stream. -/
def State.unread (n : StreamNo) (s : State) : State :=
  { s with store := { s.store with port := s.store.port.map (dropStreamRead n) } }

theorem decideStream_stands (h : (s.rdu.get n).state ≠ .running ∨ (s.rdu.get n).status ≠ none) : decideStream n c s = s :=
  if_neg (by rwa [not_and_or])

theorem decideStream_waits (hr : (s.rdu.get n).state = .running) (hn : (s.rdu.get n).status = none)
    (h : s.streamOnLine n = true) : decideStream n c s =
      (s.unread n).setStream n { s.rdu.get n with status := some c, ask := false, buffer := none } :=
  (if_pos ⟨hr, hn⟩).trans (if_pos h)

theorem decideStream_ends (hr : (s.rdu.get n).state = .running) (hn : (s.rdu.get n).status = none)
    (h : s.streamOnLine n = false) : decideStream n c s = completeStream n c (s.unread n) :=
  (if_pos ⟨hr, hn⟩).trans (if_neg (Bool.eq_false_iff.mp h))

end Complete

/-! ## The end of a frame (R169, R172) -/

section Sent
variable {s : State} {f : StreamFrame} {c : Completion}

/-- The state once the frame of a stream has been sent, its pointer moved. -/
def State.frameSent (f : StreamFrame) (s : State) : State := s.setStream f.stream ((s.rdu.get f.stream).sent f)

theorem streamFrameSent_decided (h : (s.rdu.get f.stream).status = some c) :
    streamFrameSent f s = completeStream f.stream c (s.frameSent f) := by
  have status : ((s.rdu.get f.stream).sent f).status = some c := h
  unfold streamFrameSent
  dsimp only
  rw [status]
  rfl

theorem streamFrameSent_ends (h : (s.rdu.get f.stream).status = none)
    (ht : ((s.rdu.get f.stream).sent f).test f = some c) :
    streamFrameSent f s = completeStream f.stream c (s.frameSent f) := by
  have status : ((s.rdu.get f.stream).sent f).status = none := h
  unfold streamFrameSent
  dsimp only
  rw [status, ht]
  rfl

theorem streamFrameSent_on (h : (s.rdu.get f.stream).status = none) (ht : ((s.rdu.get f.stream).sent f).test f = none) :
    streamFrameSent f s = s.setStream f.stream { (s.rdu.get f.stream).sent f with ask := true } := by
  have status : ((s.rdu.get f.stream).sent f).status = none := h
  unfold streamFrameSent
  dsimp only
  rw [status, ht]
  exact congrArg (fun x => { s with rdu := x }) (PerStream.set_set s.rdu f.stream _ _)

theorem txFrameEnd_stream (rf : RestartFacts) (h : s.clp.tx = some (.stream f)) :
    txFrameEnd rf s = streamFrameSent f { s with clp := { s.clp with tx := none } } := by
  simp only [txFrameEnd, h]

theorem txFrameEnd_restart (rf : RestartFacts) {y : Reply} (h : s.clp.tx = some (.reply y)) (hy : y.isRestart = true) :
    txFrameEnd rf s = partRestart rf { s with clp := { s.clp with tx := none } } := by
  simp only [txFrameEnd, h, if_pos hy]

theorem txFrameEnd_other (rf : RestartFacts) {x : TxFrame} (h : s.clp.tx = some x) (hs : ∀ y, x ≠ .stream y)
    (hr : ∀ y, x = .reply y → y.isRestart = false) : txFrameEnd rf s = { s with clp := { s.clp with tx := none } } := by
  simp only [txFrameEnd, h]
  cases x
  case stream y => exact absurd rfl (hs y)
  case reply y => exact if_neg (Bool.eq_false_iff.mp (hr y rfl))
  all_goals rfl

end Sent

end Sys2Proof.Machine

/-! RESTART (R148, R165, R192): what each step completes, what it leaves of the memory, and the boot from it. -/
namespace Sys2Proof.Machine

/-! ## The directory writes (R150, R160) -/

section Writes
variable (slot : Nat) (kind : DirKind) (i : RecordInfo) (s : State)

theorem dirWritten_eq : dirWritten ⟨slot, kind⟩ i s =
    if kind = .unprotect then
      (State.setStored slot (.closed i) s).updRecord slot (fun i => { i with isProtected := false })
    else State.setStored slot (.closed i) s := by
  cases kind <;> rfl

theorem makeDirWrite_gone (h : (s.entry slot).record = none) : makeDirWrite s ⟨slot, kind⟩ = s := by
  simp only [makeDirWrite, h]

variable {i s} in
theorem makeDirWrite_record (h : (s.entry slot).record = some i) : makeDirWrite s ⟨slot, kind⟩ =
    if kind = .unprotect then
      (State.setStored slot (.closed { i with isProtected := false }) s).updRecord slot
        (fun i => { i with isProtected := false })
    else State.setStored slot (.closed i) s := by
  simp only [makeDirWrite, h]
  cases kind <;> rfl

end Writes

/-! ## The operation in progress (R165) -/

section Finish
variable {s : State} {v : Bool} {slot : Nat}

theorem finishOperation_idle (h : s.store.port = none) : finishOperation v s = s := by
  simp only [finishOperation, h]

theorem finishOperation_page {page : Nat} {bs : List SampleBlock} (h : s.store.port = some (.page slot page bs)) :
    finishOperation v s = if v then countBlocks slot bs.length (storePage slot page bs v (portIdle s))
      else storePage slot page bs v (portIdle s) := by
  simp only [finishOperation, h]

theorem finishOperation_erase (h : s.store.port = some (.reclaimErase slot) ∨ s.store.port = some (.hostErase slot)) :
    finishOperation v s = eraseSlot slot (portIdle s) := by
  obtain h | h := h <;> simp only [finishOperation, h]

theorem finishOperation_opening {i : RecordInfo} (h : s.store.port = some (.opening slot i)) :
    finishOperation v s = State.setStored slot (.capturing i) (portIdle s) := by
  simp only [finishOperation, h]

theorem finishOperation_dir {w : DirWrite} {i : RecordInfo} (h : s.store.port = some (.dir w i)) :
    finishOperation v s = dirWritten w i (portIdle s) := by
  simp only [finishOperation, h]

theorem finishOperation_item {n : Nat} {k : Commit} (h : s.store.port = some (.configItem n)) (hk : s.clp.commit = some k) :
    finishOperation v s = configItemDone n k (portIdle s) := by
  simp only [finishOperation, h, hk]

theorem finishOperation_check {k : Commit} (h : s.store.port = some .configCheck) (hk : s.clp.commit = some k) :
    finishOperation v s = configCheckDone k (portIdle s) := by
  simp only [finishOperation, h, hk]

theorem finishOperation_read {page : Nat} {used : Bool} (h : s.store.port = some (.scrubRead slot page used) ∨
    ∃ n, s.store.port = some (.streamRead n slot page used)) : finishOperation v s = portIdle s := by
  obtain h | ⟨n, h⟩ := h <;> simp only [finishOperation, h]

end Finish

/-! ## The ends of the capture, of the host erase and of the commit (R148, R165, R192) -/

section Ends
variable {s : State} {begun : Bool}

theorem endCapture_none (h : s.cap.record = none ∨ s.cap.state = .closing) : endCapture begun s = s := by
  unfold endCapture
  split
  next => rfl
  next r hr => exact if_pos (h.resolve_left fun hn => Option.some_ne_none r (hr.symm.trans hn))

theorem endCapture_begun {r : OpenRecord} (hr : s.cap.record = some r) (hs : s.cap.state ≠ .closing) :
    endCapture true s = interruptRecord r.slot s := by
  simp only [endCapture, hr, if_neg hs, if_true]

theorem endCapture_erasing {r : OpenRecord} (hr : s.cap.record = some r) (hs : s.cap.state ≠ .closing)
    (he : (s.entry r.slot).state = .erasing) : endCapture false s = eraseSlot r.slot s := by
  simp only [endCapture, hr, if_neg hs, Bool.false_eq_true, if_false, if_pos he]

theorem endCapture_unopened {r : OpenRecord} (hr : s.cap.record = some r) (hs : s.cap.state ≠ .closing)
    (he : (s.entry r.slot).state ≠ .erasing) : endCapture false s = s := by
  simp only [endCapture, hr, if_neg hs, Bool.false_eq_true, if_false, if_neg he]

theorem interruptRecord_none {slot : Nat} (h : (s.entry slot).record = none) : interruptRecord slot s = s := by
  simp only [interruptRecord, h]

theorem interruptRecord_some {slot : Nat} {i : RecordInfo} (h : (s.entry slot).record = some i) :
    interruptRecord slot s = State.setStored slot (.closed { i with close := some .interrupted }) s := by
  simp only [interruptRecord, h]

theorem endHostErase_none (h : s.store.hostErase = none) : endHostErase s = s := by
  simp only [endHostErase, h]

theorem endHostErase_some {e : HostErase} (h : s.store.hostErase = some e) : endHostErase s = eraseSlot e.slot s := by
  simp only [endHostErase, h]

theorem endCommit_none (h : s.clp.commit = none) : endCommit s = s := by
  simp only [endCommit, h]

theorem endCommit_some {k : Commit} (h : s.clp.commit = some k) : endCommit s = { s with nv := { s.nv with area :=
    ⟨k.todo.foldl (fun v n => Settings.copyItem n k.snapshot v) s.nv.area.values, some k.snapshot⟩ } } := by
  simp only [endCommit, h]

theorem openingBegun_iff : s.openingBegun = true ↔ s.cap.state = .capturing ∨
    s.cap.state = .allocating ∧ ∃ slot i, s.store.port = some (.opening slot i) := by
  unfold State.openingBegun
  split
  next slot i hs hp => exact iff_of_true rfl (.inr ⟨hs, slot, i, hp⟩)
  next hs => exact iff_of_true rfl (.inl hs)
  next capturing opening =>
    refine iff_of_false Bool.false_ne_true ?_
    rintro (h | ⟨h, slot, i, hp⟩)
    · exact capturing h
    · exact opening slot i h hp

end Ends

/-! ## What every step leaves -/

/-- A step of RESTART: rom, capture, record numbers and the erase in hand stand, and no stored entry goes ERASING or bad. -/
structure RestartStep (s t : State) : Prop where
  rom : t.rom = s.rom
  cap : t.cap = s.cap
  number : t.store.nextNumber = s.store.nextNumber
  hostErase : t.store.hostErase = s.store.hostErase
  entries : ∀ (slot : Nat) (e : StoredEntry), (e = .erasing ∨ e = .badCheck) →
    t.nv.stored[slot]? = some e → s.nv.stored[slot]? = some e

namespace RestartStep
variable {s t u : State}

theorem refl (s : State) : RestartStep s s := ⟨rfl, rfl, rfl, rfl, fun _ _ _ h => h⟩

theorem trans (h : RestartStep s t) (k : RestartStep t u) : RestartStep s u :=
  ⟨k.rom.trans h.rom, k.cap.trans h.cap, k.number.trans h.number, k.hostErase.trans h.hostErase,
    fun slot e he hu => h.entries slot e he (k.entries slot e he hu)⟩

theorem of_stored (rom : t.rom = s.rom) (cap : t.cap = s.cap) (number : t.store.nextNumber = s.store.nextNumber)
    (hostErase : t.store.hostErase = s.store.hostErase) {slot : Nat} {x : StoredEntry} (hx : x ≠ .erasing ∧ x ≠ .badCheck)
    (stored : t.nv.stored = s.nv.stored.set slot x) : RestartStep s t := by
  refine ⟨rom, cap, number, hostErase, fun k e he hk => ?_⟩
  rw [stored, List.getElem?_set] at hk
  split at hk
  next same =>
    split at hk
    · cases hk
      exact absurd he (not_or.mpr hx)
    · cases hk
  next => exact hk

theorem setStored (slot : Nat) {x : StoredEntry} (hx : x ≠ .erasing ∧ x ≠ .badCheck) (s : State) :
    RestartStep s (State.setStored slot x s) := of_stored rfl rfl rfl rfl hx rfl

theorem eraseSlot (slot : Nat) (s : State) : RestartStep s (eraseSlot slot s) :=
  of_stored rfl rfl rfl rfl (x := .free) (by decide) rfl

theorem dirWritten (w : DirWrite) (i : RecordInfo) (s : State) : RestartStep s (dirWritten w i s) := by
  have stored := setStored w.slot (x := .closed i) ⟨nofun, nofun⟩ s
  rw [dirWritten_eq]
  split
  · exact stored.trans ⟨rfl, rfl, rfl, rfl, fun _ _ _ h => h⟩
  · exact stored

theorem finishOperation (v : Bool) (s : State) : RestartStep s (finishOperation v s) := by
  have idle : RestartStep s (portIdle s) := ⟨rfl, rfl, rfl, rfl, fun _ _ _ h => h⟩
  unfold Machine.finishOperation
  split
  case h_1 => exact refl s
  case h_2 =>
    dsimp only
    split <;> exact ⟨rfl, rfl, rfl, rfl, fun _ _ _ h => h⟩
  case h_3 => exact idle.trans (eraseSlot _ _)
  case h_4 => exact idle.trans (eraseSlot _ _)
  case h_5 => exact idle.trans (setStored _ (x := .capturing _) ⟨nofun, nofun⟩ _)
  case h_6 => exact idle.trans (dirWritten _ _ _)
  case h_7 =>
    split
    · exact idle
    · exact ⟨rfl, rfl, rfl, rfl, fun _ _ _ h => h⟩
  case h_8 =>
    split
    · exact idle
    · refine ⟨?_, ?_, ?_, ?_, ?_⟩ <;> simp only [configCheckDone, raise_rom, raise_cap, raise_store, raise_nv]
      · rfl
      · rfl
      · rfl
      · rfl
      · exact fun _ _ _ h => h
  case h_9 => exact idle
  case h_10 => exact idle

theorem makeDirWrite (s : State) (w : DirWrite) : RestartStep s (makeDirWrite s w) := by
  unfold Machine.makeDirWrite
  split
  · exact refl s
  · exact dirWritten _ _ _

theorem makeDirWrites (ws : List DirWrite) (s : State) : RestartStep s (ws.foldl Machine.makeDirWrite s) := by
  induction ws generalizing s with
  | nil => exact refl s
  | cons w ws ih => exact (makeDirWrite s w).trans (ih _)

theorem endCapture (begun : Bool) (s : State) : RestartStep s (endCapture begun s) := by
  unfold Machine.endCapture interruptRecord
  split
  · exact refl s
  · split
    · exact refl s
    · split
      · split
        · exact refl s
        · exact setStored _ (x := .closed _) ⟨nofun, nofun⟩ _
      · split
        · exact eraseSlot _ _
        · exact refl s

theorem endHostErase (s : State) : RestartStep s (endHostErase s) := by
  unfold Machine.endHostErase
  split
  · exact refl s
  · exact eraseSlot _ _

theorem endCommit (s : State) : RestartStep s (endCommit s) := by
  unfold Machine.endCommit
  split
  · exact refl s
  · exact ⟨rfl, rfl, rfl, rfl, fun _ _ _ h => h⟩

end RestartStep

/-! ## A page that no step writes or erases -/

section Pages
variable {slot p : Nat} {s : State}

theorem eraseSlot_page {x : Nat} (hx : x ≠ slot) (hp : p < 320) (s : State) :
    pagesRead (eraseSlot x s).nv.pages (slot * 320 + p) = pagesRead s.nv.pages (slot * 320 + p) :=
  pagesRead_erase_kept (by omega) s.nv.pages

theorem dirWritten_pages (w : DirWrite) (i : RecordInfo) (s : State) : (dirWritten w i s).nv.pages = s.nv.pages := by
  rw [dirWritten_eq]
  split <;> rfl

theorem finishOperation_pages (hp : p < 320) (hr : s.store.port ≠ some (.reclaimErase slot))
    (hh : s.store.port ≠ some (.hostErase slot))
    (hw : ∀ x q bs, s.store.port = some (.page x q bs) → x * 320 + q ≠ slot * 320 + p) (v : Bool) :
    pagesRead (finishOperation v s).nv.pages (slot * 320 + p) = pagesRead s.nv.pages (slot * 320 + p) := by
  unfold finishOperation
  split
  case h_1 => rfl
  case h_2 x q bs hport =>
    have other := pagesRead_write_other (pageAddr x q) ⟨bs, v⟩ _ (hw x q bs hport).symm s.nv.pages
    dsimp only
    split <;> exact other
  case h_3 x hport => exact eraseSlot_page (fun e => hr (by rw [hport, e])) hp _
  case h_4 x hport => exact eraseSlot_page (fun e => hh (by rw [hport, e])) hp _
  case h_5 => rfl
  case h_6 => rw [dirWritten_pages]; rfl
  case h_7 => split <;> rfl
  case h_8 =>
    split
    · rfl
    · simp only [configCheckDone, raise_nv]
      rfl
  case h_9 => rfl
  case h_10 => rfl

theorem makeDirWrites_pages (ws : List DirWrite) (s : State) : (ws.foldl makeDirWrite s).nv.pages = s.nv.pages := by
  induction ws generalizing s with
  | nil => rfl
  | cons w ws ih =>
    refine (ih _).trans ?_
    unfold makeDirWrite
    split
    · rfl
    · exact dirWritten_pages _ _ _

theorem endCapture_pages (hp : p < 320) (h : ∀ r, s.cap.record = some r → r.slot ≠ slot) (begun : Bool) :
    pagesRead (endCapture begun s).nv.pages (slot * 320 + p) = pagesRead s.nv.pages (slot * 320 + p) := by
  unfold endCapture interruptRecord
  split
  · rfl
  next r hr =>
    split
    · rfl
    · split
      · split <;> rfl
      · split
        · exact eraseSlot_page (h r hr) hp s
        · rfl

theorem endHostErase_pages (hp : p < 320) (h : ∀ e, s.store.hostErase = some e → e.slot ≠ slot) :
    pagesRead (endHostErase s).nv.pages (slot * 320 + p) = pagesRead s.nv.pages (slot * 320 + p) := by
  unfold endHostErase
  split
  · rfl
  next e he => exact eraseSlot_page (h e he) hp s

theorem endCommit_pages (s : State) : (endCommit s).nv.pages = s.nv.pages := by
  unfold endCommit
  split <;> rfl

end Pages

end Sys2Proof.Machine

/-! The streams run (R165, R168 to R175, R181, R192). -/
namespace Sys2Proof.Machine

theorem configCheckDone_fields (k : Commit) (s : State) :
    (configCheckDone k s).nv = { s.nv with area := { s.nv.area with checkOver := some k.snapshot } } ∧
      (configCheckDone k s).clp.commit = none :=
  ⟨raise_nv _ _, congrArg Clp.commit (raise_linkOutside _ _)⟩

/-! ## The store's work at a RESTART -/

section Restart
variable (v : Bool) (s : State)

/-- The state once the store's work is complete (R165, R192). -/
def State.storeEnded : State :=
  endCommit (endHostErase (endCapture s.openingBegun
    ((finishOperation v s).store.dirQueue.foldl makeDirWrite (finishOperation v s))))

theorem partRestart_eq (rf : RestartFacts) : partRestart rf s = bootFrom rf.faults (s.storeEnded rf.pageVerified).nv
    (s.storeEnded rf.pageVerified).store.nextNumber (s.storeEnded rf.pageVerified) := rfl

theorem beforeCapture_step :
    RestartStep s ((finishOperation v s).store.dirQueue.foldl makeDirWrite (finishOperation v s)) :=
  (RestartStep.finishOperation v s).trans (RestartStep.makeDirWrites _ _)

theorem beforeErase_step (begun : Bool) : RestartStep s
    (endCapture begun ((finishOperation v s).store.dirQueue.foldl makeDirWrite (finishOperation v s))) :=
  (beforeCapture_step v s).trans (RestartStep.endCapture begun _)

theorem storeEnded_step : RestartStep s (s.storeEnded v) :=
  ((beforeErase_step v s _).trans (RestartStep.endHostErase _)).trans (RestartStep.endCommit _)

variable {s} {slot p : Nat}

theorem storeEnded_page (hp : p < 320) (hc : ∀ r, s.cap.record = some r → r.slot ≠ slot)
    (he : ∀ h, s.store.hostErase = some h → h.slot ≠ slot) (hr : s.store.port ≠ some (.reclaimErase slot))
    (hh : s.store.port ≠ some (.hostErase slot))
    (hw : ∀ x q bs, s.store.port = some (.page x q bs) → x * 320 + q ≠ slot * 320 + p) :
    pagesRead (s.storeEnded v).nv.pages (slot * 320 + p) = pagesRead s.nv.pages (slot * 320 + p) := by
  have capture := beforeCapture_step v s
  have erase := beforeErase_step v s s.openingBegun
  rw [State.storeEnded, endCommit_pages, endHostErase_pages hp (erase.hostErase ▸ he),
    endCapture_pages hp (capture.cap ▸ hc), makeDirWrites_pages, finishOperation_pages hp hr hh hw]

/-- A page that no step writes or erases, in a slot that the scan does not erase, stands. -/
theorem restart_page (f : ScanFaults) (hp : p < 320) (hc : ∀ r, s.cap.record = some r → r.slot ≠ slot)
    (he : ∀ h, s.store.hostErase = some h → h.slot ≠ slot) (hr : s.store.port ≠ some (.reclaimErase slot))
    (hh : s.store.port ≠ some (.hostErase slot))
    (hw : ∀ x q bs, s.store.port = some (.page x q bs) → x * 320 + q ≠ slot * 320 + p) (hb : slot ∉ f.badEntries)
    (hse : s.nv.stored[slot]? ≠ some .erasing) (hsb : s.nv.stored[slot]? ≠ some .badCheck) :
    pagesRead (scanStore f (s.storeEnded v).nv).pages (slot * 320 + p) = pagesRead s.nv.pages (slot * 320 + p) := by
  refine (scan_keeps f hp (fun q hq hs => ?_) _).trans (storeEnded_page v hp hc he hr hh hw)
  have listed := List.mem_zipIdx_iff_getElem?.mp hq
  rw [hs] at listed
  have entries := (storeEnded_step v s).entries slot q.1
  rw [hs, Bool.eq_false_iff, ne_eq, scanErases_iff]
  rintro (h | h | h)
  · exact hb h
  · exact hse (h ▸ entries (.inl h) listed)
  · exact hsb (h ▸ entries (.inr h) listed)

variable (s) in
/-- What a boot gives, whatever set it loads. -/
theorem bootFrom_fields (f : ScanFaults) (nv : NonVolatile) (next : Nat) : let t := bootFrom f nv next s
    (t.begun = false ∧ t.time = 0 ∧ t.flm = Flm.boot t.clp.working ∧ t.ble = Ble.boot ∧ t.tpc = ⟨Tpc.boot, Tpc.boot⟩ ∧
      t.am = Am.boot ∧ t.es = Es.boot ∧ t.csl = Csl.boot ∧ t.cap = Cap.boot ∧ t.rdu = ⟨Stream.boot, Stream.boot⟩ ∧
      t.rom = s.rom ∧ next ≤ t.store.nextNumber) ∧ t.nv = scanStore f nv := by
  obtain ⟨w, image, valid, notices, boot, -, -⟩ := bootFrom_eq f nv next s
  dsimp only
  rw [boot]
  exact ⟨⟨rfl, rfl, rfl, rfl, rfl, rfl, rfl, rfl, rfl, rfl, rfl, Nat.le_max_left _ _⟩, rfl⟩

end Restart

/-- Settles O59. -/
theorem streamsRun : Obligations.StreamsRun := by
  refine ⟨fun tag a b c d f1 f0 l1 l0 m o n s => ?_, fun n c s => ?_, fun rf y s hp htx hy => ?_, fun v u => ?_,
    fun slot kind u => ?_, fun begun u => ?_⟩
  · intro sb pl fo fa fx fb k first last put
    have kept (f : ReqFrame) {α : Type} (F : State → α) : F (arrive f s) = F { s with clp := { s.clp with
        queue := (arrive f s).clp.queue } } := by
      obtain ⟨q, form⟩ := arrive_form f s
      rw [form]
    have named (rest : List Byte) : streamOf (rd8 (sb :: rest) 0) = n := streamOf_code n
    have stream (f : ReqFrame) : (arrive f s).rdu = s.rdu := kept f fun x => x.rdu
    have state (f : ReqFrame) : (arrive f s).rdu.get n = k := congrArg (fun r => PerStream.get r n) (stream f)
    have one (rest : List Byte) : rd8 (sb :: rest) 0 ≠ 2 := by cases n <;> exact of_decide_eq_true rfl
    have openPasses : precheck fo = none := by cases n <;> rfl
    have ackPasses : precheck fa = none := by cases n <;> rfl
    have abortPasses : precheck fx = none := by cases n <;> rfl
    refine ⟨fun ready h => ?_, fun ready hm ho => ?_, fun ready => ⟨fun h => ?_, fun h => ?_⟩,
      fun ready => ⟨fun h => ?_, fun h => ?_⟩, fun ready => ?_, fun slot page hp hport hk => ?_,
      fun slot page r hp hport => ?_, fun x rf hp htx hx => ?_, fun x rf hp htx hx => ⟨fun hr => ?_, fun y hy hr => ?_⟩⟩
    · exact replies_of_serve rfl rfl ready openPasses (serveStreamOpen_badValue h)
    · intro open' r
      have within : ¬(1 < rd8 pl 9 ∨ 1 < rd8 pl 10) := not_or.mpr ⟨Nat.not_lt.mpr hm, Nat.not_lt.mpr ho⟩
      have find : r.findRecord (rd32 pl 1) = s.findRecord (rd32 pl 1) := kept fo fun x => x.findRecord (rd32 pl 1)
      have refused {e : ReplyStatus} (ht : streamOpenTest k (s.findRecord (rd32 pl 1)) first last = .error e) :
          replies open' s fo e [] r := by
        refine replies_of_serve rfl rfl ready openPasses (serveStreamOpen_refused (named _) within ?_)
        rw [state fo, find]
        exact ht
      refine ⟨fun hk => refused (streamOpenTest_running hk), fun hk => refused (streamOpenTest_complete hk),
        fun hk hf => refused ?_, fun slot st i hk hf => ⟨fun hst => refused ?_, fun hst hw => refused ?_, fun hst h1 h2 => ?_⟩⟩
      · rw [hf]
        exact streamOpenTest_unknown hk
      · rw [hf, streamOpenTest_found hk, if_pos hst]
      · rw [hf, streamOpenTest_found hk, if_neg (not_not_intro hst), if_neg hw]
      · have test : streamOpenTest (r.rdu.get n) (r.findRecord (rd32 pl 1)) first last = .ok i := by
          rw [state fo, find, hf, streamOpenTest_found hk, if_neg (not_not_intro hst), if_pos ⟨h1, h2⟩]
        have opened := serveStreamOpen_opened (named _) within test
        have single : (rd8 pl 9 == 1) = (m == 1#8) := byte_eq_one m
        have stop : (rd8 pl 10 == 1) = (o == 1#8) := byte_eq_one o
        rw [State.setStream, stream fo, single, stop] at opened
        exact replies_of_serve rfl rfl ready openPasses opened
    · have served := serveStreamAck_complete (named []) ((congrArg Stream.state (state fa)).trans h)
      rw [State.setStream, state fa, stream fa] at served
      exact replies_of_serve rfl rfl ready ackPasses served
    · exact replies_of_serve rfl rfl ready ackPasses
        (serveStreamAck_other (named []) fun e => h ((congrArg Stream.state (state fa)).symm.trans e))
    · exact replies_of_serve rfl rfl ready abortPasses
        (serveStreamAbort_one_refused (one []) (named []) fun e => h ((congrArg Stream.state (state fx)).symm.trans e))
    · exact replies_of_serve rfl rfl ready abortPasses
        (serveStreamAbort_one (one []) (named []) ((congrArg Stream.state (state fx)).trans h))
    · intro b none'
      refine ⟨fun h => ?_, fun h => ?_⟩
      · exact replies_of_serve rfl rfl ready rfl (serveStreamAbort_both_refused rfl ((stream fb).symm ▸ h))
      · exact replies_of_serve rfl rfl ready rfl (serveStreamAbort_both rfl ((stream fb).symm ▸ h))
    · intro lo hi length fitted built stored
      exact ⟨effect_of_act_eq rfl hp (streamPageReadDone_used hport hk .good),
        fun bs => effect_of_act_eq rfl hp (streamPageReadDone_used hport hk (.bad bs))⟩
    · exact effect_of_act_eq rfl hp (streamPageReadDone_unused hport r)
    · subst hx
      intro j t trig ends
      have sent := txFrameEnd_stream rf htx
      refine ⟨fun c hc => effect_of_act_eq rfl hp (sent.trans (streamFrameSent_decided hc)), fun hn => ?_⟩
      have complete {c : Completion} (ht : j.test x = some c) : ends (completeStream x.stream c t) :=
        effect_of_act_eq rfl hp (sent.trans (streamFrameSent_ends hn ht))
      refine ⟨fun h => complete (if_pos h), fun h hl => complete ((if_neg h).trans (if_pos hl)),
        fun h hl hs => complete ((if_neg h).trans ((if_neg hl).trans (if_pos hs))), fun h hl hs => ?_⟩
      have on : j.test x = none := (if_neg h).trans ((if_neg hl).trans (if_neg (Bool.eq_false_iff.mp hs)))
      exact effect_of_act_eq rfl hp (sent.trans (streamFrameSent_on hn on))
    · exact effect_of_act_eq rfl hp (txFrameEnd_other rf htx hx hr)
    · subst hy
      obtain ⟨fields, -⟩ := bootFrom_fields (State.storeEnded rf.pageVerified { s with clp := { s.clp with tx := none } })
        rf.faults (State.storeEnded rf.pageVerified { s with clp := { s.clp with tx := none } }).nv
        (State.storeEnded rf.pageVerified { s with clp := { s.clp with tx := none } }).store.nextNumber
      have step := storeEnded_step rf.pageVerified { s with clp := { s.clp with tx := none } }
      obtain ⟨h1, h2, h3, h4, h5, h6, h7, h8, h9, h10, rom, number⟩ := fields
      exact ⟨_, effect_of_act_eq rfl hp ((txFrameEnd_restart rf htx hr).trans (partRestart_eq _ rf)), h1, h2, h3, h4, h5, h6,
        h7, h8, h9, h10, rom.trans step.rom, step.number.symm.le.trans number⟩
  · intro e unread ended
    have port : unread = s.unread n :=
      congrArg (fun g => { s with store := { s.store with port := s.store.port.map g } }) (dropStreamRead_eq n).symm
    refine ⟨streamOnLine_iff, rfl, decideStream_stands c, fun hr hn => ⟨fun h => ?_, fun h => ?_⟩⟩
    · rw [port]
      exact decideStream_waits c hr hn h
    · rw [port]
      exact decideStream_ends c hr hn h
  · intro finished written u t
    have step := storeEnded_step rf.pageVerified { s with clp := { s.clp with tx := none } }
    obtain ⟨-, nv⟩ := bootFrom_fields u rf.faults u.nv u.store.nextNumber
    refine ⟨effect_of_act_eq rfl hp ((txFrameEnd_restart rf htx hy).trans (partRestart_eq _ rf)), nv, step.number,
      openingBegun_iff, fun slot p hlt hc he hr hh hw hb hse hsb => ?_⟩
    rw [nv]
    exact restart_page (s := { s with clp := { s.clp with tx := none } }) rf.pageVerified rf.faults hlt hc he hr hh hw hb hse hsb
  · intro f idle stores erased
    refine ⟨finishOperation_idle, fun slot page bs h => ?_, fun slot h => finishOperation_erase h,
      fun slot i h => finishOperation_opening h, fun slot kind i h => ?_, fun n c h hc => ?_, fun c h hc => ?_,
      fun slot page used h => finishOperation_read h⟩
    · exact finishOperation_page h
    · exact (finishOperation_dir h).trans (dirWritten_eq slot kind i (portIdle u))
    · exact ⟨_, finishOperation_item h hc⟩
    · have done : f = configCheckDone c (portIdle u) := finishOperation_check h hc
      rw [done]
      exact configCheckDone_fields c (portIdle u)
  · exact ⟨makeDirWrite_gone slot kind u, fun i h => makeDirWrite_record slot kind h⟩
  · intro erased
    refine ⟨endCapture_none, fun r hr hs => ⟨fun i hb hi => ?_, fun hb hi => ?_, fun hb he => ?_, fun hb he => ?_⟩,
      endHostErase_none, fun h he => endHostErase_some he, endCommit_none, fun c hc => endCommit_some hc⟩
    · subst hb
      exact (endCapture_begun hr hs).trans (interruptRecord_some hi)
    · subst hb
      exact (endCapture_begun hr hs).trans (interruptRecord_none hi)
    · subst hb
      exact endCapture_erasing hr hs he
    · subst hb
      exact endCapture_unopened hr hs he

end Sys2Proof.Machine
